-- ==== Sys2Proof/Word.lean ====
section
/-! DEFINITION. The words of the MINI_SIM-16 machine and the names of its registers
(00_scope.md R4, R6; 10_state.md R10, R11). -/

namespace Sys2Proof

/-- One byte of memory or of an instruction. -/
abbrev Byte := BitVec 8

/-- A 16-bit register value (`XLEN` = 16, 00_scope.md R4). -/
abbrev Word := BitVec 16

/-- An address of the 65,536-byte space (20_memory.md R40). -/
abbrev Addr := BitVec 16

/-- The nine 16-bit registers (10_state.md R10, 90_conflicts.md C1). -/
inductive Reg16 where
  | ax | bx | cx | dx | ex | sp | bp | si | di
deriving DecidableEq, Repr

/-- The ten 8-bit views (10_state.md R11, 90_conflicts.md C2). -/
inductive Reg8 where
  | al | ah | bl | bh | cl | ch | dl | dh | el | eh
deriving DecidableEq, Repr

end Sys2Proof
end

