-- ==== Sys2Proof/Machine/Bytes.lean ====
section
/-! DEFINITION. The byte order of words, in memory and in instructions: little-endian (20_memory.md R46,
30_encoding.md R80). Every use of byte order in the model goes through these three functions. -/

namespace Sys2Proof.Machine

/-- The word whose low byte is `lo` and whose high byte is `hi`: `lo + 256 * hi` (20_memory.md R43). -/
def wordOfBytes (lo hi : Byte) : Word := hi ++ lo

/-- Bits 7 to 0 of a word. -/
def loByte (v : Word) : Byte := v.extractLsb' 0 8

/-- Bits 15 to 8 of a word. -/
def hiByte (v : Word) : Byte := v.extractLsb' 8 8

end Sys2Proof.Machine
end

