-- ==== Sys2Proof/Machine/RegCodes.lean ====
section
/-! DEFINITION. The register codes `REGCODE16` and `REGCODE8` (30_encoding.md R76, R77), the one table of them: the decoder, the
encoder and the well-formedness check all read it. The values are the spec's decision D2: UNVERIFIED,
notes/assumptions/4.md: unsafe. -/

namespace Sys2Proof

def Reg16.all : List Reg16 := [.ax, .bx, .cx, .dx, .ex, .sp, .bp, .si, .di]

/-- `REGCODE16` (30_encoding.md R76). -/
def Reg16.code : Reg16 → Byte
  | .ax => 0x00
  | .bx => 0x01
  | .cx => 0x02
  | .dx => 0x03
  | .ex => 0x04
  | .sp => 0x05
  | .bp => 0x06
  | .si => 0x07
  | .di => 0x08

def Reg8.all : List Reg8 := [.al, .ah, .bl, .bh, .cl, .ch, .dl, .dh, .el, .eh]

/-- `REGCODE8` (30_encoding.md R77). -/
def Reg8.code : Reg8 → Byte
  | .al => 0x10
  | .ah => 0x11
  | .bl => 0x12
  | .bh => 0x13
  | .cl => 0x14
  | .ch => 0x15
  | .dl => 0x16
  | .dh => 0x17
  | .el => 0x18
  | .eh => 0x19

/-- The 16-bit register a code byte names, or none: "no such register" (30_encoding.md R76, R78). -/
def reg16OfCode (c : Byte) : Option Reg16 := Reg16.all.find? (fun r => r.code == c)

/-- The 8-bit view a code byte names, or none (30_encoding.md R77, R78). -/
def reg8OfCode (c : Byte) : Option Reg8 := Reg8.all.find? (fun r => r.code == c)

end Sys2Proof
end

