-- ==== Sys2Proof/Syntax.lean ====
section
/-! DEFINITION. The instructions of the MINI_SIM-16 machine: one constructor for each of the 100 variants of
30_encoding.md R85, in opcode order. Operands are decoded: registers by name, immediates and addresses as values, so that
no illegal combination of operands can be written ("There is no illegal combination of valid fields", R88). `d` is the
destination, `r` the source register, `b` and `x` the base and index of a memory operand, `a` a direct address, `v` an
immediate, `n` an immediate count. Byte 2 of the shift-by-CL variants is not part of the instruction (R87). -/

namespace Sys2Proof

inductive Instr where
  /-- `HALT`, opcode 0x01 (45_system.md R320). -/
  | halt
  /-- `RET`, opcode 0x02 (44_control_and_stack.md R293). -/
  | ret
  /-- `JMP label`, opcode 0x10 (44_control_and_stack.md R291). -/
  | jmp (target : Addr)
  /-- `CALL label`, opcode 0x11 (44_control_and_stack.md R292). -/
  | call (target : Addr)
  /-- `JZ label`, opcode 0x12 (44_control_and_stack.md R294). -/
  | jz (target : Addr)
  /-- `JNZ label`, opcode 0x13 (44_control_and_stack.md R295). -/
  | jnz (target : Addr)
  /-- `JC label`, opcode 0x14 (44_control_and_stack.md R296). -/
  | jc (target : Addr)
  /-- `JNC label`, opcode 0x15 (44_control_and_stack.md R297). -/
  | jnc (target : Addr)
  /-- `JS label`, opcode 0x16 (44_control_and_stack.md R298). -/
  | js (target : Addr)
  /-- `JNS label`, opcode 0x17 (44_control_and_stack.md R299). -/
  | jns (target : Addr)
  /-- `JO label`, opcode 0x18 (44_control_and_stack.md R300). -/
  | jo (target : Addr)
  /-- `JNO label`, opcode 0x19 (44_control_and_stack.md R301). -/
  | jno (target : Addr)
  /-- `MOV r16,r16`, opcode 0x20 (40_data_movement.md R133). -/
  | movR16R16 (d r : Reg16)
  /-- `MOV r8,r8`, opcode 0x21 (40_data_movement.md R134). -/
  | movR8R8 (d r : Reg8)
  /-- `MOV r16,imm16`, opcode 0x22 (40_data_movement.md R135). -/
  | movR16Imm (d : Reg16) (v : Word)
  /-- `MOV r8,imm8`, opcode 0x23 (40_data_movement.md R136). -/
  | movR8Imm (d : Reg8) (v : Byte)
  /-- `MOV r16,[imm16]`, opcode 0x24 (40_data_movement.md R137). -/
  | movR16Mem (d : Reg16) (a : Addr)
  /-- `MOV [imm16],r16`, opcode 0x25 (40_data_movement.md R138). -/
  | movMemR16 (r : Reg16) (a : Addr)
  /-- `MOV r16,[r16]`, opcode 0x26 (40_data_movement.md R139). -/
  | movR16Ind (d b : Reg16)
  /-- `MOV [r16],r16`, opcode 0x27 (40_data_movement.md R140). -/
  | movIndR16 (b r : Reg16)
  /-- `MOV r16,[r16+r16]`, opcode 0x28 (40_data_movement.md R141). -/
  | movR16Pair (d b x : Reg16)
  /-- `MOV [r16+r16],r16`, opcode 0x29 (40_data_movement.md R142). -/
  | movPairR16 (b x r : Reg16)
  /-- `MOV r8,[imm16]`, opcode 0x2A (40_data_movement.md R143). -/
  | movR8Mem (d : Reg8) (a : Addr)
  /-- `MOV [imm16],r8`, opcode 0x2B (40_data_movement.md R144). -/
  | movMemR8 (r : Reg8) (a : Addr)
  /-- `MOV r8,[r16]`, opcode 0x2C (40_data_movement.md R145). -/
  | movR8Ind (d : Reg8) (b : Reg16)
  /-- `MOV [r16],r8`, opcode 0x2D (40_data_movement.md R146). -/
  | movIndR8 (b : Reg16) (r : Reg8)
  /-- `MOV r8,[r16+r16]`, opcode 0x2E (40_data_movement.md R147). -/
  | movR8Pair (d : Reg8) (b x : Reg16)
  /-- `MOV [r16+r16],r8`, opcode 0x2F (40_data_movement.md R148). -/
  | movPairR8 (b x : Reg16) (r : Reg8)
  /-- `MOV [imm16],imm8`, opcode 0x30 (40_data_movement.md R149). -/
  | movMemImm8 (a : Addr) (v : Byte)
  /-- `MOV [imm16],imm16`, opcode 0x31 (40_data_movement.md R150). -/
  | movMemImm16 (a : Addr) (v : Word)
  /-- `XCHG r16,r16`, opcode 0x32 (40_data_movement.md R151). -/
  | xchgR16R16 (d r : Reg16)
  /-- `XCHG r8,r8`, opcode 0x33 (40_data_movement.md R152). -/
  | xchgR8R8 (d r : Reg8)
  /-- `ADD r16,r16`, opcode 0x40 (41_arithmetic.md R170). -/
  | addR16R16 (d r : Reg16)
  /-- `ADD r8,r8`, opcode 0x41 (41_arithmetic.md R171). -/
  | addR8R8 (d r : Reg8)
  /-- `ADD r16,imm16`, opcode 0x42 (41_arithmetic.md R172). -/
  | addR16Imm (d : Reg16) (v : Word)
  /-- `ADD r8,imm8`, opcode 0x43 (41_arithmetic.md R173). -/
  | addR8Imm (d : Reg8) (v : Byte)
  /-- `ADC r16,r16`, opcode 0x44 (41_arithmetic.md R174). -/
  | adcR16R16 (d r : Reg16)
  /-- `ADC r8,r8`, opcode 0x45 (41_arithmetic.md R175). -/
  | adcR8R8 (d r : Reg8)
  /-- `ADC r16,imm16`, opcode 0x46 (41_arithmetic.md R176). -/
  | adcR16Imm (d : Reg16) (v : Word)
  /-- `ADC r8,imm8`, opcode 0x47 (41_arithmetic.md R177). -/
  | adcR8Imm (d : Reg8) (v : Byte)
  /-- `SUB r16,r16`, opcode 0x48 (41_arithmetic.md R178). -/
  | subR16R16 (d r : Reg16)
  /-- `SUB r8,r8`, opcode 0x49 (41_arithmetic.md R179). -/
  | subR8R8 (d r : Reg8)
  /-- `SUB r16,imm16`, opcode 0x4A (41_arithmetic.md R180). -/
  | subR16Imm (d : Reg16) (v : Word)
  /-- `SUB r8,imm8`, opcode 0x4B (41_arithmetic.md R181). -/
  | subR8Imm (d : Reg8) (v : Byte)
  /-- `SBB r16,r16`, opcode 0x4C (41_arithmetic.md R182). -/
  | sbbR16R16 (d r : Reg16)
  /-- `SBB r8,r8`, opcode 0x4D (41_arithmetic.md R183). -/
  | sbbR8R8 (d r : Reg8)
  /-- `SBB r16,imm16`, opcode 0x4E (41_arithmetic.md R184). -/
  | sbbR16Imm (d : Reg16) (v : Word)
  /-- `SBB r8,imm8`, opcode 0x4F (41_arithmetic.md R185). -/
  | sbbR8Imm (d : Reg8) (v : Byte)
  /-- `CMP r16,r16`, opcode 0x50 (41_arithmetic.md R186). -/
  | cmpR16R16 (d r : Reg16)
  /-- `CMP r8,r8`, opcode 0x51 (41_arithmetic.md R187). -/
  | cmpR8R8 (d r : Reg8)
  /-- `CMP r16,imm16`, opcode 0x52 (41_arithmetic.md R188). -/
  | cmpR16Imm (d : Reg16) (v : Word)
  /-- `CMP r8,imm8`, opcode 0x53 (41_arithmetic.md R189). -/
  | cmpR8Imm (d : Reg8) (v : Byte)
  /-- `AND r16,r16`, opcode 0x54 (42_logic.md R211). -/
  | andR16R16 (d r : Reg16)
  /-- `AND r8,r8`, opcode 0x55 (42_logic.md R212). -/
  | andR8R8 (d r : Reg8)
  /-- `AND r16,imm16`, opcode 0x56 (42_logic.md R213). -/
  | andR16Imm (d : Reg16) (v : Word)
  /-- `AND r8,imm8`, opcode 0x57 (42_logic.md R214). -/
  | andR8Imm (d : Reg8) (v : Byte)
  /-- `OR r16,r16`, opcode 0x58 (42_logic.md R215). -/
  | orR16R16 (d r : Reg16)
  /-- `OR r8,r8`, opcode 0x59 (42_logic.md R216). -/
  | orR8R8 (d r : Reg8)
  /-- `OR r16,imm16`, opcode 0x5A (42_logic.md R217). -/
  | orR16Imm (d : Reg16) (v : Word)
  /-- `OR r8,imm8`, opcode 0x5B (42_logic.md R218). -/
  | orR8Imm (d : Reg8) (v : Byte)
  /-- `XOR r16,r16`, opcode 0x5C (42_logic.md R219). -/
  | xorR16R16 (d r : Reg16)
  /-- `XOR r8,r8`, opcode 0x5D (42_logic.md R220). -/
  | xorR8R8 (d r : Reg8)
  /-- `XOR r16,imm16`, opcode 0x5E (42_logic.md R221). -/
  | xorR16Imm (d : Reg16) (v : Word)
  /-- `XOR r8,imm8`, opcode 0x5F (42_logic.md R222). -/
  | xorR8Imm (d : Reg8) (v : Byte)
  /-- `INC r16`, opcode 0x60 (41_arithmetic.md R190). -/
  | incR16 (d : Reg16)
  /-- `INC r8`, opcode 0x61 (41_arithmetic.md R191). -/
  | incR8 (d : Reg8)
  /-- `DEC r16`, opcode 0x62 (41_arithmetic.md R192). -/
  | decR16 (d : Reg16)
  /-- `DEC r8`, opcode 0x63 (41_arithmetic.md R193). -/
  | decR8 (d : Reg8)
  /-- `NOT r16`, opcode 0x64 (42_logic.md R223). -/
  | notR16 (d : Reg16)
  /-- `NOT r8`, opcode 0x65 (42_logic.md R224). -/
  | notR8 (d : Reg8)
  /-- `PUSH r16`, opcode 0x66 (44_control_and_stack.md R303). -/
  | pushR16 (r : Reg16)
  /-- `POP r16`, opcode 0x67 (44_control_and_stack.md R304). -/
  | popR16 (d : Reg16)
  /-- `SHL r16,imm8`, opcode 0x80 (43_shift_rotate.md R250). -/
  | shlR16Imm (d : Reg16) (n : Byte)
  /-- `SHL r16,CL`, opcode 0x81 (43_shift_rotate.md R251). -/
  | shlR16Cl (d : Reg16)
  /-- `SHL r8,imm8`, opcode 0x82 (43_shift_rotate.md R252). -/
  | shlR8Imm (d : Reg8) (n : Byte)
  /-- `SHL r8,CL`, opcode 0x83 (43_shift_rotate.md R253). -/
  | shlR8Cl (d : Reg8)
  /-- `SHR r16,imm8`, opcode 0x84 (43_shift_rotate.md R254). -/
  | shrR16Imm (d : Reg16) (n : Byte)
  /-- `SHR r16,CL`, opcode 0x85 (43_shift_rotate.md R255). -/
  | shrR16Cl (d : Reg16)
  /-- `SHR r8,imm8`, opcode 0x86 (43_shift_rotate.md R256). -/
  | shrR8Imm (d : Reg8) (n : Byte)
  /-- `SHR r8,CL`, opcode 0x87 (43_shift_rotate.md R257). -/
  | shrR8Cl (d : Reg8)
  /-- `SAR r16,imm8`, opcode 0x88 (43_shift_rotate.md R258). -/
  | sarR16Imm (d : Reg16) (n : Byte)
  /-- `SAR r16,CL`, opcode 0x89 (43_shift_rotate.md R259). -/
  | sarR16Cl (d : Reg16)
  /-- `SAR r8,imm8`, opcode 0x8A (43_shift_rotate.md R260). -/
  | sarR8Imm (d : Reg8) (n : Byte)
  /-- `SAR r8,CL`, opcode 0x8B (43_shift_rotate.md R261). -/
  | sarR8Cl (d : Reg8)
  /-- `ROL r16,imm8`, opcode 0x8C (43_shift_rotate.md R262). -/
  | rolR16Imm (d : Reg16) (n : Byte)
  /-- `ROL r16,CL`, opcode 0x8D (43_shift_rotate.md R263). -/
  | rolR16Cl (d : Reg16)
  /-- `ROL r8,imm8`, opcode 0x8E (43_shift_rotate.md R264). -/
  | rolR8Imm (d : Reg8) (n : Byte)
  /-- `ROL r8,CL`, opcode 0x8F (43_shift_rotate.md R265). -/
  | rolR8Cl (d : Reg8)
  /-- `ROR r16,imm8`, opcode 0x90 (43_shift_rotate.md R266). -/
  | rorR16Imm (d : Reg16) (n : Byte)
  /-- `ROR r16,CL`, opcode 0x91 (43_shift_rotate.md R267). -/
  | rorR16Cl (d : Reg16)
  /-- `ROR r8,imm8`, opcode 0x92 (43_shift_rotate.md R268). -/
  | rorR8Imm (d : Reg8) (n : Byte)
  /-- `ROR r8,CL`, opcode 0x93 (43_shift_rotate.md R269). -/
  | rorR8Cl (d : Reg8)
  /-- `RCL r16,imm8`, opcode 0x94 (43_shift_rotate.md R270). -/
  | rclR16Imm (d : Reg16) (n : Byte)
  /-- `RCL r16,CL`, opcode 0x95 (43_shift_rotate.md R271). -/
  | rclR16Cl (d : Reg16)
  /-- `RCL r8,imm8`, opcode 0x96 (43_shift_rotate.md R272). -/
  | rclR8Imm (d : Reg8) (n : Byte)
  /-- `RCL r8,CL`, opcode 0x97 (43_shift_rotate.md R273). -/
  | rclR8Cl (d : Reg8)
  /-- `RCR r16,imm8`, opcode 0x98 (43_shift_rotate.md R274). -/
  | rcrR16Imm (d : Reg16) (n : Byte)
  /-- `RCR r16,CL`, opcode 0x99 (43_shift_rotate.md R275). -/
  | rcrR16Cl (d : Reg16)
  /-- `RCR r8,imm8`, opcode 0x9A (43_shift_rotate.md R276). -/
  | rcrR8Imm (d : Reg8) (n : Byte)
  /-- `RCR r8,CL`, opcode 0x9B (43_shift_rotate.md R277). -/
  | rcrR8Cl (d : Reg8)
deriving DecidableEq, Repr

end Sys2Proof
end

