-- ==== Sys2Proof/WellFormed.lean ====
section
/-! DEFINITION. When the bytes of an instruction are well formed: the layout of each variant as the table of
30_encoding.md R85 writes it, and the check of its register-code bytes (R73, R78). A decoded `Instr` needs no check of its
own: its operands are register names and values, and every combination of them is legal (R88). What can be ill formed is
the raw form below: a variant with the bytes that follow its opcode. -/

namespace Sys2Proof

/-- The 100 variants (30_encoding.md R85): what an opcode byte selects, before the operand bytes are read. -/
inductive Variant where
  | halt | ret | jmp | call | jz | jnz | jc | jnc | js | jns | jo | jno | movR16R16 | movR8R8 | movR16Imm
  | movR8Imm | movR16Mem | movMemR16 | movR16Ind | movIndR16 | movR16Pair | movPairR16 | movR8Mem | movMemR8
  | movR8Ind | movIndR8 | movR8Pair | movPairR8 | movMemImm8 | movMemImm16 | xchgR16R16 | xchgR8R8
  | addR16R16 | addR8R8 | addR16Imm | addR8Imm | adcR16R16 | adcR8R8 | adcR16Imm | adcR8Imm | subR16R16
  | subR8R8 | subR16Imm | subR8Imm | sbbR16R16 | sbbR8R8 | sbbR16Imm | sbbR8Imm | cmpR16R16 | cmpR8R8
  | cmpR16Imm | cmpR8Imm | andR16R16 | andR8R8 | andR16Imm | andR8Imm | orR16R16 | orR8R8 | orR16Imm
  | orR8Imm | xorR16R16 | xorR8R8 | xorR16Imm | xorR8Imm | incR16 | incR8 | decR16 | decR8 | notR16 | notR8
  | pushR16 | popR16 | shlR16Imm | shlR16Cl | shlR8Imm | shlR8Cl | shrR16Imm | shrR16Cl | shrR8Imm | shrR8Cl
  | sarR16Imm | sarR16Cl | sarR8Imm | sarR8Cl | rolR16Imm | rolR16Cl | rolR8Imm | rolR8Cl | rorR16Imm
  | rorR16Cl | rorR8Imm | rorR8Cl | rclR16Imm | rclR16Cl | rclR8Imm | rclR8Cl | rcrR16Imm | rcrR16Cl
  | rcrR8Imm | rcrR8Cl
deriving DecidableEq, Repr

/-- What a byte after the opcode is (the letters of the layout column of 30_encoding.md R85). -/
inductive Field where
  /-- A 16-bit register code: `d`, `s`, `b` or `i` where the form says `r16`. -/
  | code16
  /-- An 8-bit view code: `d` or `s` where the form says `r8`. -/
  | code8
  /-- A byte of an immediate, an address or a target: `n`, `lo`, `hi`. -/
  | value
  /-- A byte that is not interpreted: `xx`. -/
  | ignored
deriving DecidableEq, Repr

/-- The bytes after the opcode, in ascending address order (30_encoding.md R71, R85). -/
def Variant.layout : Variant → List Field
  | .halt | .ret => []
  | .jmp | .call | .jz | .jnz | .jc | .jnc | .js | .jns | .jo | .jno => [.value, .value]
  | .movR16R16 | .movR16Ind | .movIndR16 | .xchgR16R16 | .addR16R16 | .adcR16R16 | .subR16R16 | .sbbR16R16
  | .cmpR16R16 | .andR16R16 | .orR16R16 | .xorR16R16 => [.code16, .code16]
  | .movR8R8 | .xchgR8R8 | .addR8R8 | .adcR8R8 | .subR8R8 | .sbbR8R8 | .cmpR8R8 | .andR8R8 | .orR8R8
  | .xorR8R8 => [.code8, .code8]
  | .movR16Imm | .movR16Mem | .movMemR16 | .addR16Imm | .adcR16Imm | .subR16Imm | .sbbR16Imm | .cmpR16Imm
  | .andR16Imm | .orR16Imm | .xorR16Imm => [.code16, .value, .value]
  | .movR8Imm | .addR8Imm | .adcR8Imm | .subR8Imm | .sbbR8Imm | .cmpR8Imm | .andR8Imm | .orR8Imm | .xorR8Imm
  | .shlR8Imm | .shrR8Imm | .sarR8Imm | .rolR8Imm | .rorR8Imm | .rclR8Imm | .rcrR8Imm => [.code8, .value]
  | .movR16Pair | .movPairR16 => [.code16, .code16, .code16]
  | .movR8Mem | .movMemR8 => [.code8, .value, .value]
  | .movR8Ind => [.code8, .code16]
  | .movIndR8 => [.code16, .code8]
  | .movR8Pair => [.code8, .code16, .code16]
  | .movPairR8 => [.code16, .code16, .code8]
  | .movMemImm8 => [.value, .value, .value]
  | .movMemImm16 => [.value, .value, .value, .value]
  | .incR16 | .decR16 | .notR16 | .pushR16 | .popR16 => [.code16]
  | .incR8 | .decR8 | .notR8 => [.code8]
  | .shlR16Imm | .shrR16Imm | .sarR16Imm | .rolR16Imm | .rorR16Imm | .rclR16Imm | .rcrR16Imm => [.code16, .value]
  | .shlR16Cl | .shrR16Cl | .sarR16Cl | .rolR16Cl | .rorR16Cl | .rclR16Cl | .rcrR16Cl => [.code16, .ignored]
  | .shlR8Cl | .shrR8Cl | .sarR8Cl | .rolR8Cl | .rorR8Cl | .rclR8Cl | .rcrR8Cl => [.code8, .ignored]

/-- Whether a byte may stand where the layout has this field: a code of `REGCODE16` where a 16-bit register is expected, one of
`REGCODE8` where an 8-bit view is expected (30_encoding.md R78). -/
def Field.admits : Field → Byte → Bool
  | .code16, b => (reg16OfCode b).isSome
  | .code8, b => (reg8OfCode b).isSome
  | .value, _ => true
  | .ignored, _ => true

/-- The first byte, in ascending address order, that its field does not admit: the one a bad encoding reports
(30_encoding.md R78). -/
def firstBadByte : List Field → List Byte → Option Byte
  | f :: fs, b :: bs => if f.admits b then firstBadByte fs bs else some b
  | _, _ => none

/-- A variant with the bytes that follow its opcode, not yet checked. -/
structure RawInstr where
  variant : Variant
  operands : List Byte
deriving DecidableEq, Repr

/-- The check: as many bytes as the layout has, and every register-code byte in its code set. -/
def RawInstr.wellFormed (i : RawInstr) : Bool :=
  decide (i.operands.length = i.variant.layout.length) && (firstBadByte i.variant.layout i.operands).isNone

end Sys2Proof
end

