-- ==== Sys2Proof/Decode.lean ====
section
/-! DEFINITION. The opcode map, the decoder and the encoder (30_encoding.md R70 to R89). The decoder
reads the bytes of an instruction through a fetch function (byte `k` of the instruction, k = 0 to 4), so that it is the
same decoder on memory and on a list of bytes. -/

namespace Sys2Proof

open Sys2Proof.Machine (wordOfBytes loByte hiByte)

/-! ## `OPMAP` (30_encoding.md R85). The values are the spec's decision D4: UNVERIFIED, notes/assumptions/4.md: unsafe. -/

/-- The opcode byte of each variant. -/
def Variant.opcode : Variant → Byte
  | .halt => 0x01
  | .ret => 0x02
  | .jmp => 0x10
  | .call => 0x11
  | .jz => 0x12
  | .jnz => 0x13
  | .jc => 0x14
  | .jnc => 0x15
  | .js => 0x16
  | .jns => 0x17
  | .jo => 0x18
  | .jno => 0x19
  | .movR16R16 => 0x20
  | .movR8R8 => 0x21
  | .movR16Imm => 0x22
  | .movR8Imm => 0x23
  | .movR16Mem => 0x24
  | .movMemR16 => 0x25
  | .movR16Ind => 0x26
  | .movIndR16 => 0x27
  | .movR16Pair => 0x28
  | .movPairR16 => 0x29
  | .movR8Mem => 0x2A
  | .movMemR8 => 0x2B
  | .movR8Ind => 0x2C
  | .movIndR8 => 0x2D
  | .movR8Pair => 0x2E
  | .movPairR8 => 0x2F
  | .movMemImm8 => 0x30
  | .movMemImm16 => 0x31
  | .xchgR16R16 => 0x32
  | .xchgR8R8 => 0x33
  | .addR16R16 => 0x40
  | .addR8R8 => 0x41
  | .addR16Imm => 0x42
  | .addR8Imm => 0x43
  | .adcR16R16 => 0x44
  | .adcR8R8 => 0x45
  | .adcR16Imm => 0x46
  | .adcR8Imm => 0x47
  | .subR16R16 => 0x48
  | .subR8R8 => 0x49
  | .subR16Imm => 0x4A
  | .subR8Imm => 0x4B
  | .sbbR16R16 => 0x4C
  | .sbbR8R8 => 0x4D
  | .sbbR16Imm => 0x4E
  | .sbbR8Imm => 0x4F
  | .cmpR16R16 => 0x50
  | .cmpR8R8 => 0x51
  | .cmpR16Imm => 0x52
  | .cmpR8Imm => 0x53
  | .andR16R16 => 0x54
  | .andR8R8 => 0x55
  | .andR16Imm => 0x56
  | .andR8Imm => 0x57
  | .orR16R16 => 0x58
  | .orR8R8 => 0x59
  | .orR16Imm => 0x5A
  | .orR8Imm => 0x5B
  | .xorR16R16 => 0x5C
  | .xorR8R8 => 0x5D
  | .xorR16Imm => 0x5E
  | .xorR8Imm => 0x5F
  | .incR16 => 0x60
  | .incR8 => 0x61
  | .decR16 => 0x62
  | .decR8 => 0x63
  | .notR16 => 0x64
  | .notR8 => 0x65
  | .pushR16 => 0x66
  | .popR16 => 0x67
  | .shlR16Imm => 0x80
  | .shlR16Cl => 0x81
  | .shlR8Imm => 0x82
  | .shlR8Cl => 0x83
  | .shrR16Imm => 0x84
  | .shrR16Cl => 0x85
  | .shrR8Imm => 0x86
  | .shrR8Cl => 0x87
  | .sarR16Imm => 0x88
  | .sarR16Cl => 0x89
  | .sarR8Imm => 0x8A
  | .sarR8Cl => 0x8B
  | .rolR16Imm => 0x8C
  | .rolR16Cl => 0x8D
  | .rolR8Imm => 0x8E
  | .rolR8Cl => 0x8F
  | .rorR16Imm => 0x90
  | .rorR16Cl => 0x91
  | .rorR8Imm => 0x92
  | .rorR8Cl => 0x93
  | .rclR16Imm => 0x94
  | .rclR16Cl => 0x95
  | .rclR8Imm => 0x96
  | .rclR8Cl => 0x97
  | .rcrR16Imm => 0x98
  | .rcrR16Cl => 0x99
  | .rcrR8Imm => 0x9A
  | .rcrR8Cl => 0x9B

/-- Every variant, in opcode order. -/
def Variant.all : List Variant :=
  ([.halt, .ret, .jmp, .call, .jz, .jnz, .jc] : List Variant)
  ++ ([.jnc, .js, .jns, .jo, .jno, .movR16R16, .movR8R8] : List Variant)
  ++ ([.movR16Imm, .movR8Imm, .movR16Mem, .movMemR16, .movR16Ind, .movIndR16, .movR16Pair] : List Variant)
  ++ ([.movPairR16, .movR8Mem, .movMemR8, .movR8Ind, .movIndR8, .movR8Pair, .movPairR8] : List Variant)
  ++ ([.movMemImm8, .movMemImm16, .xchgR16R16, .xchgR8R8, .addR16R16, .addR8R8, .addR16Imm] : List Variant)
  ++ ([.addR8Imm, .adcR16R16, .adcR8R8, .adcR16Imm, .adcR8Imm, .subR16R16, .subR8R8] : List Variant)
  ++ ([.subR16Imm, .subR8Imm, .sbbR16R16, .sbbR8R8, .sbbR16Imm, .sbbR8Imm, .cmpR16R16] : List Variant)
  ++ ([.cmpR8R8, .cmpR16Imm, .cmpR8Imm, .andR16R16, .andR8R8, .andR16Imm, .andR8Imm] : List Variant)
  ++ ([.orR16R16, .orR8R8, .orR16Imm, .orR8Imm, .xorR16R16, .xorR8R8, .xorR16Imm] : List Variant)
  ++ ([.xorR8Imm, .incR16, .incR8, .decR16, .decR8, .notR16, .notR8] : List Variant)
  ++ ([.pushR16, .popR16, .shlR16Imm, .shlR16Cl, .shlR8Imm, .shlR8Cl, .shrR16Imm] : List Variant)
  ++ ([.shrR16Cl, .shrR8Imm, .shrR8Cl, .sarR16Imm, .sarR16Cl, .sarR8Imm, .sarR8Cl] : List Variant)
  ++ ([.rolR16Imm, .rolR16Cl, .rolR8Imm, .rolR8Cl, .rorR16Imm, .rorR16Cl, .rorR8Imm] : List Variant)
  ++ ([.rorR8Cl, .rclR16Imm, .rclR16Cl, .rclR8Imm, .rclR8Cl, .rcrR16Imm, .rcrR16Cl] : List Variant)
  ++ ([.rcrR8Imm, .rcrR8Cl] : List Variant)

/-- `OPMAP[op]`; none for the 156 unassigned opcode values (30_encoding.md R85, R86). -/
def opMap (op : Byte) : Option Variant := Variant.all.find? (fun v => v.opcode == op)

/-! ## Formats and lengths (30_encoding.md R71, R75) -/

/-- The nine formats (30_encoding.md R71). -/
inductive Format where
  | n | a | r | rr | ri8 | ri16 | rrr | ai8 | ai16
deriving DecidableEq, Repr

/-- The total length in bytes of a format (30_encoding.md R71). -/
def Format.length : Format → Nat
  | .n => 1
  | .r => 2
  | .a => 3
  | .rr => 3
  | .ri8 => 3
  | .ri16 => 4
  | .rrr => 4
  | .ai8 => 4
  | .ai16 => 5

/-- The format of each variant (30_encoding.md R71, R85). -/
def Variant.format : Variant → Format
  | .halt | .ret => .n
  | .jmp | .call | .jz | .jnz | .jc | .jnc | .js | .jns | .jo | .jno => .a
  | .movR16R16 | .movR8R8 | .movR16Ind | .movIndR16 | .movR8Ind | .movIndR8 | .xchgR16R16 | .xchgR8R8
  | .addR16R16 | .addR8R8 | .adcR16R16 | .adcR8R8 | .subR16R16 | .subR8R8 | .sbbR16R16 | .sbbR8R8
  | .cmpR16R16 | .cmpR8R8 | .andR16R16 | .andR8R8 | .orR16R16 | .orR8R8 | .xorR16R16 | .xorR8R8 | .shlR16Cl
  | .shlR8Cl | .shrR16Cl | .shrR8Cl | .sarR16Cl | .sarR8Cl | .rolR16Cl | .rolR8Cl | .rorR16Cl | .rorR8Cl
  | .rclR16Cl | .rclR8Cl | .rcrR16Cl | .rcrR8Cl => .rr
  | .movR16Imm | .movR16Mem | .movMemR16 | .movR8Mem | .movMemR8 | .addR16Imm | .adcR16Imm | .subR16Imm
  | .sbbR16Imm | .cmpR16Imm | .andR16Imm | .orR16Imm | .xorR16Imm => .ri16
  | .movR8Imm | .addR8Imm | .adcR8Imm | .subR8Imm | .sbbR8Imm | .cmpR8Imm | .andR8Imm | .orR8Imm | .xorR8Imm
  | .shlR16Imm | .shlR8Imm | .shrR16Imm | .shrR8Imm | .sarR16Imm | .sarR8Imm | .rolR16Imm | .rolR8Imm
  | .rorR16Imm | .rorR8Imm | .rclR16Imm | .rclR8Imm | .rcrR16Imm | .rcrR8Imm => .ri8
  | .movR16Pair | .movPairR16 | .movR8Pair | .movPairR8 => .rrr
  | .movMemImm8 => .ai8
  | .movMemImm16 => .ai16
  | .incR16 | .incR8 | .decR16 | .decR8 | .notR16 | .notR8 | .pushR16 | .popR16 => .r

/-- The fixed length of a variant, which the opcode alone decides (30_encoding.md R75). -/
def Variant.length (v : Variant) : Nat := v.format.length

/-- The variant an instruction is. -/
def Instr.variant : Instr → Variant
  | .halt => .halt
  | .ret => .ret
  | .jmp .. => .jmp
  | .call .. => .call
  | .jz .. => .jz
  | .jnz .. => .jnz
  | .jc .. => .jc
  | .jnc .. => .jnc
  | .js .. => .js
  | .jns .. => .jns
  | .jo .. => .jo
  | .jno .. => .jno
  | .movR16R16 .. => .movR16R16
  | .movR8R8 .. => .movR8R8
  | .movR16Imm .. => .movR16Imm
  | .movR8Imm .. => .movR8Imm
  | .movR16Mem .. => .movR16Mem
  | .movMemR16 .. => .movMemR16
  | .movR16Ind .. => .movR16Ind
  | .movIndR16 .. => .movIndR16
  | .movR16Pair .. => .movR16Pair
  | .movPairR16 .. => .movPairR16
  | .movR8Mem .. => .movR8Mem
  | .movMemR8 .. => .movMemR8
  | .movR8Ind .. => .movR8Ind
  | .movIndR8 .. => .movIndR8
  | .movR8Pair .. => .movR8Pair
  | .movPairR8 .. => .movPairR8
  | .movMemImm8 .. => .movMemImm8
  | .movMemImm16 .. => .movMemImm16
  | .xchgR16R16 .. => .xchgR16R16
  | .xchgR8R8 .. => .xchgR8R8
  | .addR16R16 .. => .addR16R16
  | .addR8R8 .. => .addR8R8
  | .addR16Imm .. => .addR16Imm
  | .addR8Imm .. => .addR8Imm
  | .adcR16R16 .. => .adcR16R16
  | .adcR8R8 .. => .adcR8R8
  | .adcR16Imm .. => .adcR16Imm
  | .adcR8Imm .. => .adcR8Imm
  | .subR16R16 .. => .subR16R16
  | .subR8R8 .. => .subR8R8
  | .subR16Imm .. => .subR16Imm
  | .subR8Imm .. => .subR8Imm
  | .sbbR16R16 .. => .sbbR16R16
  | .sbbR8R8 .. => .sbbR8R8
  | .sbbR16Imm .. => .sbbR16Imm
  | .sbbR8Imm .. => .sbbR8Imm
  | .cmpR16R16 .. => .cmpR16R16
  | .cmpR8R8 .. => .cmpR8R8
  | .cmpR16Imm .. => .cmpR16Imm
  | .cmpR8Imm .. => .cmpR8Imm
  | .andR16R16 .. => .andR16R16
  | .andR8R8 .. => .andR8R8
  | .andR16Imm .. => .andR16Imm
  | .andR8Imm .. => .andR8Imm
  | .orR16R16 .. => .orR16R16
  | .orR8R8 .. => .orR8R8
  | .orR16Imm .. => .orR16Imm
  | .orR8Imm .. => .orR8Imm
  | .xorR16R16 .. => .xorR16R16
  | .xorR8R8 .. => .xorR8R8
  | .xorR16Imm .. => .xorR16Imm
  | .xorR8Imm .. => .xorR8Imm
  | .incR16 .. => .incR16
  | .incR8 .. => .incR8
  | .decR16 .. => .decR16
  | .decR8 .. => .decR8
  | .notR16 .. => .notR16
  | .notR8 .. => .notR8
  | .pushR16 .. => .pushR16
  | .popR16 .. => .popR16
  | .shlR16Imm .. => .shlR16Imm
  | .shlR16Cl .. => .shlR16Cl
  | .shlR8Imm .. => .shlR8Imm
  | .shlR8Cl .. => .shlR8Cl
  | .shrR16Imm .. => .shrR16Imm
  | .shrR16Cl .. => .shrR16Cl
  | .shrR8Imm .. => .shrR8Imm
  | .shrR8Cl .. => .shrR8Cl
  | .sarR16Imm .. => .sarR16Imm
  | .sarR16Cl .. => .sarR16Cl
  | .sarR8Imm .. => .sarR8Imm
  | .sarR8Cl .. => .sarR8Cl
  | .rolR16Imm .. => .rolR16Imm
  | .rolR16Cl .. => .rolR16Cl
  | .rolR8Imm .. => .rolR8Imm
  | .rolR8Cl .. => .rolR8Cl
  | .rorR16Imm .. => .rorR16Imm
  | .rorR16Cl .. => .rorR16Cl
  | .rorR8Imm .. => .rorR8Imm
  | .rorR8Cl .. => .rorR8Cl
  | .rclR16Imm .. => .rclR16Imm
  | .rclR16Cl .. => .rclR16Cl
  | .rclR8Imm .. => .rclR8Imm
  | .rclR8Cl .. => .rclR8Cl
  | .rcrR16Imm .. => .rcrR16Imm
  | .rcrR16Cl .. => .rcrR16Cl
  | .rcrR8Imm .. => .rcrR8Imm
  | .rcrR8Cl .. => .rcrR8Cl

/-! ## The decoder (30_encoding.md R73) -/

/-- Why the decoder raises a fault (60_exceptions.md R331, R332). -/
inductive DecodeFault where
  /-- The opcode byte is not assigned. -/
  | unknownOpcode (op : Byte)
  /-- A register-code byte names no register of the width its place calls for. -/
  | badRegister (code : Byte)
deriving DecidableEq, Repr

/-- Byte `k` of the instruction being decoded (`Fetch8(k)`, 30_encoding.md R72). -/
abbrev FetchFn := Nat → Byte

/-- `Fetch16(k)`: low byte first (30_encoding.md R72, R80). -/
def fetchWord (f : FetchFn) (k : Nat) : Word := wordOfBytes (f k) (f (k + 1))

/-- The 16-bit register code in byte `k`, or the fault of 30_encoding.md R78. -/
def fetchReg16 (f : FetchFn) (k : Nat) : Except DecodeFault Reg16 :=
  match reg16OfCode (f k) with
  | some r => .ok r
  | none => .error (.badRegister (f k))

/-- The 8-bit view code in byte `k`, or the fault of 30_encoding.md R78. -/
def fetchReg8 (f : FetchFn) (k : Nat) : Except DecodeFault Reg8 :=
  match reg8OfCode (f k) with
  | some r => .ok r
  | none => .error (.badRegister (f k))

/-- Go on with what a register-code byte decoded to, or keep its fault. -/
def thenDecode {α β : Type} (e : Except DecodeFault α) (next : α → Except DecodeFault β) : Except DecodeFault β :=
  match e with
  | .ok x => next x
  | .error r => .error r

/-! The operand layouts, each with the constructor it ends in; register codes are checked in ascending address order, so
that the lowest bad one is reported (30_encoding.md R73, R78, D12). -/

def operandsR16 (f : FetchFn) (mk : Reg16 → Instr) : Except DecodeFault Instr :=
  thenDecode (fetchReg16 f 1) fun p => .ok (mk p)

def operandsR8 (f : FetchFn) (mk : Reg8 → Instr) : Except DecodeFault Instr :=
  thenDecode (fetchReg8 f 1) fun p => .ok (mk p)

def operandsR16R16 (f : FetchFn) (mk : Reg16 → Reg16 → Instr) : Except DecodeFault Instr :=
  thenDecode (fetchReg16 f 1) fun p => thenDecode (fetchReg16 f 2) fun q => .ok (mk p q)

def operandsR8R8 (f : FetchFn) (mk : Reg8 → Reg8 → Instr) : Except DecodeFault Instr :=
  thenDecode (fetchReg8 f 1) fun p => thenDecode (fetchReg8 f 2) fun q => .ok (mk p q)

def operandsR8R16 (f : FetchFn) (mk : Reg8 → Reg16 → Instr) : Except DecodeFault Instr :=
  thenDecode (fetchReg8 f 1) fun p => thenDecode (fetchReg16 f 2) fun q => .ok (mk p q)

def operandsR16R8 (f : FetchFn) (mk : Reg16 → Reg8 → Instr) : Except DecodeFault Instr :=
  thenDecode (fetchReg16 f 1) fun p => thenDecode (fetchReg8 f 2) fun q => .ok (mk p q)

def operandsR16R16R16 (f : FetchFn) (mk : Reg16 → Reg16 → Reg16 → Instr) : Except DecodeFault Instr :=
  thenDecode (fetchReg16 f 1) fun p => thenDecode (fetchReg16 f 2) fun q =>
    thenDecode (fetchReg16 f 3) fun u => .ok (mk p q u)

def operandsR8R16R16 (f : FetchFn) (mk : Reg8 → Reg16 → Reg16 → Instr) : Except DecodeFault Instr :=
  thenDecode (fetchReg8 f 1) fun p => thenDecode (fetchReg16 f 2) fun q =>
    thenDecode (fetchReg16 f 3) fun u => .ok (mk p q u)

def operandsR16R16R8 (f : FetchFn) (mk : Reg16 → Reg16 → Reg8 → Instr) : Except DecodeFault Instr :=
  thenDecode (fetchReg16 f 1) fun p => thenDecode (fetchReg16 f 2) fun q =>
    thenDecode (fetchReg8 f 3) fun u => .ok (mk p q u)

def operandsR16Byte (f : FetchFn) (mk : Reg16 → Byte → Instr) : Except DecodeFault Instr :=
  thenDecode (fetchReg16 f 1) fun p => .ok (mk p (f 2))

def operandsR8Byte (f : FetchFn) (mk : Reg8 → Byte → Instr) : Except DecodeFault Instr :=
  thenDecode (fetchReg8 f 1) fun p => .ok (mk p (f 2))

def operandsR16Word (f : FetchFn) (mk : Reg16 → Word → Instr) : Except DecodeFault Instr :=
  thenDecode (fetchReg16 f 1) fun p => .ok (mk p (fetchWord f 2))

def operandsR8Word (f : FetchFn) (mk : Reg8 → Word → Instr) : Except DecodeFault Instr :=
  thenDecode (fetchReg8 f 1) fun p => .ok (mk p (fetchWord f 2))

/-- The operand fields of a variant, read by its layout (30_encoding.md R71, R81, R85). -/
def decodeOperands (f : FetchFn) : Variant → Except DecodeFault Instr
  | .halt => .ok .halt
  | .ret => .ok .ret
  | .jmp => .ok (.jmp (fetchWord f 1))
  | .call => .ok (.call (fetchWord f 1))
  | .jz => .ok (.jz (fetchWord f 1))
  | .jnz => .ok (.jnz (fetchWord f 1))
  | .jc => .ok (.jc (fetchWord f 1))
  | .jnc => .ok (.jnc (fetchWord f 1))
  | .js => .ok (.js (fetchWord f 1))
  | .jns => .ok (.jns (fetchWord f 1))
  | .jo => .ok (.jo (fetchWord f 1))
  | .jno => .ok (.jno (fetchWord f 1))
  | .movR16R16 => operandsR16R16 f .movR16R16
  | .movR8R8 => operandsR8R8 f .movR8R8
  | .movR16Imm => operandsR16Word f .movR16Imm
  | .movR8Imm => operandsR8Byte f .movR8Imm
  | .movR16Mem => operandsR16Word f .movR16Mem
  | .movMemR16 => operandsR16Word f .movMemR16
  | .movR16Ind => operandsR16R16 f .movR16Ind
  | .movIndR16 => operandsR16R16 f .movIndR16
  | .movR16Pair => operandsR16R16R16 f .movR16Pair
  | .movPairR16 => operandsR16R16R16 f .movPairR16
  | .movR8Mem => operandsR8Word f .movR8Mem
  | .movMemR8 => operandsR8Word f .movMemR8
  | .movR8Ind => operandsR8R16 f .movR8Ind
  | .movIndR8 => operandsR16R8 f .movIndR8
  | .movR8Pair => operandsR8R16R16 f .movR8Pair
  | .movPairR8 => operandsR16R16R8 f .movPairR8
  | .movMemImm8 => .ok (.movMemImm8 (fetchWord f 1) (f 3))
  | .movMemImm16 => .ok (.movMemImm16 (fetchWord f 1) (fetchWord f 3))
  | .xchgR16R16 => operandsR16R16 f .xchgR16R16
  | .xchgR8R8 => operandsR8R8 f .xchgR8R8
  | .addR16R16 => operandsR16R16 f .addR16R16
  | .addR8R8 => operandsR8R8 f .addR8R8
  | .addR16Imm => operandsR16Word f .addR16Imm
  | .addR8Imm => operandsR8Byte f .addR8Imm
  | .adcR16R16 => operandsR16R16 f .adcR16R16
  | .adcR8R8 => operandsR8R8 f .adcR8R8
  | .adcR16Imm => operandsR16Word f .adcR16Imm
  | .adcR8Imm => operandsR8Byte f .adcR8Imm
  | .subR16R16 => operandsR16R16 f .subR16R16
  | .subR8R8 => operandsR8R8 f .subR8R8
  | .subR16Imm => operandsR16Word f .subR16Imm
  | .subR8Imm => operandsR8Byte f .subR8Imm
  | .sbbR16R16 => operandsR16R16 f .sbbR16R16
  | .sbbR8R8 => operandsR8R8 f .sbbR8R8
  | .sbbR16Imm => operandsR16Word f .sbbR16Imm
  | .sbbR8Imm => operandsR8Byte f .sbbR8Imm
  | .cmpR16R16 => operandsR16R16 f .cmpR16R16
  | .cmpR8R8 => operandsR8R8 f .cmpR8R8
  | .cmpR16Imm => operandsR16Word f .cmpR16Imm
  | .cmpR8Imm => operandsR8Byte f .cmpR8Imm
  | .andR16R16 => operandsR16R16 f .andR16R16
  | .andR8R8 => operandsR8R8 f .andR8R8
  | .andR16Imm => operandsR16Word f .andR16Imm
  | .andR8Imm => operandsR8Byte f .andR8Imm
  | .orR16R16 => operandsR16R16 f .orR16R16
  | .orR8R8 => operandsR8R8 f .orR8R8
  | .orR16Imm => operandsR16Word f .orR16Imm
  | .orR8Imm => operandsR8Byte f .orR8Imm
  | .xorR16R16 => operandsR16R16 f .xorR16R16
  | .xorR8R8 => operandsR8R8 f .xorR8R8
  | .xorR16Imm => operandsR16Word f .xorR16Imm
  | .xorR8Imm => operandsR8Byte f .xorR8Imm
  | .incR16 => operandsR16 f .incR16
  | .incR8 => operandsR8 f .incR8
  | .decR16 => operandsR16 f .decR16
  | .decR8 => operandsR8 f .decR8
  | .notR16 => operandsR16 f .notR16
  | .notR8 => operandsR8 f .notR8
  | .pushR16 => operandsR16 f .pushR16
  | .popR16 => operandsR16 f .popR16
  | .shlR16Imm => operandsR16Byte f .shlR16Imm
  | .shlR16Cl => operandsR16 f .shlR16Cl
  | .shlR8Imm => operandsR8Byte f .shlR8Imm
  | .shlR8Cl => operandsR8 f .shlR8Cl
  | .shrR16Imm => operandsR16Byte f .shrR16Imm
  | .shrR16Cl => operandsR16 f .shrR16Cl
  | .shrR8Imm => operandsR8Byte f .shrR8Imm
  | .shrR8Cl => operandsR8 f .shrR8Cl
  | .sarR16Imm => operandsR16Byte f .sarR16Imm
  | .sarR16Cl => operandsR16 f .sarR16Cl
  | .sarR8Imm => operandsR8Byte f .sarR8Imm
  | .sarR8Cl => operandsR8 f .sarR8Cl
  | .rolR16Imm => operandsR16Byte f .rolR16Imm
  | .rolR16Cl => operandsR16 f .rolR16Cl
  | .rolR8Imm => operandsR8Byte f .rolR8Imm
  | .rolR8Cl => operandsR8 f .rolR8Cl
  | .rorR16Imm => operandsR16Byte f .rorR16Imm
  | .rorR16Cl => operandsR16 f .rorR16Cl
  | .rorR8Imm => operandsR8Byte f .rorR8Imm
  | .rorR8Cl => operandsR8 f .rorR8Cl
  | .rclR16Imm => operandsR16Byte f .rclR16Imm
  | .rclR16Cl => operandsR16 f .rclR16Cl
  | .rclR8Imm => operandsR8Byte f .rclR8Imm
  | .rclR8Cl => operandsR8 f .rclR8Cl
  | .rcrR16Imm => operandsR16Byte f .rcrR16Imm
  | .rcrR16Cl => operandsR16 f .rcrR16Cl
  | .rcrR8Imm => operandsR8Byte f .rcrR8Imm
  | .rcrR8Cl => operandsR8 f .rcrR8Cl

/-- The decode algorithm (30_encoding.md R73): the opcode first, then the register codes in ascending address order. It is
total: an instruction, `unknownOpcode` or `badRegister`. Only the bytes of the variant's length are read. -/
def decodeFrom (f : FetchFn) : Except DecodeFault Instr :=
  match opMap (f 0) with
  | none => .error (.unknownOpcode (f 0))
  | some v => decodeOperands f v

/-- Why a list of bytes is not the start of an instruction. -/
inductive BytesRefusal where
  /-- The list ends before the instruction does; a machine never sees this, since memory has no end (R72). DESIGN CHOICE,
  notes/assumptions/29.md: safe. -/
  | tooShort
  /-- The decoder raises this fault. -/
  | fault (e : DecodeFault)
deriving DecidableEq, Repr

/-- The decoder on a list of bytes: the instruction at its head and the bytes that follow it (30_encoding.md R75). -/
def decodeBytes (bs : List Byte) : Except BytesRefusal (Instr × List Byte) :=
  match bs with
  | [] => .error .tooShort
  | op :: _ =>
    match opMap op with
    | none => .error (.fault (.unknownOpcode op))
    | some v =>
      if bs.length < v.length then .error .tooShort
      else
        match decodeOperands (fun k => bs.getD k 0) v with
        | .ok i => .ok (i, bs.drop v.length)
        | .error e => .error (.fault e)

/-! ## The encoder (30_encoding.md R71, R85, R101) -/

/-- The byte the encoder emits in the uninterpreted place of the shift-by-CL variants: the code of CL (30_encoding.md R87,
D20). -/
def clCode : Byte := Reg8.code .cl

/-- The bytes of an instruction, in address order. -/
def encode : Instr → List Byte
  | .halt => [Variant.opcode .halt]
  | .ret => [Variant.opcode .ret]
  | .jmp target => [Variant.opcode .jmp, loByte target, hiByte target]
  | .call target => [Variant.opcode .call, loByte target, hiByte target]
  | .jz target => [Variant.opcode .jz, loByte target, hiByte target]
  | .jnz target => [Variant.opcode .jnz, loByte target, hiByte target]
  | .jc target => [Variant.opcode .jc, loByte target, hiByte target]
  | .jnc target => [Variant.opcode .jnc, loByte target, hiByte target]
  | .js target => [Variant.opcode .js, loByte target, hiByte target]
  | .jns target => [Variant.opcode .jns, loByte target, hiByte target]
  | .jo target => [Variant.opcode .jo, loByte target, hiByte target]
  | .jno target => [Variant.opcode .jno, loByte target, hiByte target]
  | .movR16R16 d r => [Variant.opcode .movR16R16, d.code, r.code]
  | .movR8R8 d r => [Variant.opcode .movR8R8, d.code, r.code]
  | .movR16Imm d v => [Variant.opcode .movR16Imm, d.code, loByte v, hiByte v]
  | .movR8Imm d v => [Variant.opcode .movR8Imm, d.code, v]
  | .movR16Mem d a => [Variant.opcode .movR16Mem, d.code, loByte a, hiByte a]
  | .movMemR16 r a => [Variant.opcode .movMemR16, r.code, loByte a, hiByte a]
  | .movR16Ind d b => [Variant.opcode .movR16Ind, d.code, b.code]
  | .movIndR16 b r => [Variant.opcode .movIndR16, b.code, r.code]
  | .movR16Pair d b x => [Variant.opcode .movR16Pair, d.code, b.code, x.code]
  | .movPairR16 b x r => [Variant.opcode .movPairR16, b.code, x.code, r.code]
  | .movR8Mem d a => [Variant.opcode .movR8Mem, d.code, loByte a, hiByte a]
  | .movMemR8 r a => [Variant.opcode .movMemR8, r.code, loByte a, hiByte a]
  | .movR8Ind d b => [Variant.opcode .movR8Ind, d.code, b.code]
  | .movIndR8 b r => [Variant.opcode .movIndR8, b.code, r.code]
  | .movR8Pair d b x => [Variant.opcode .movR8Pair, d.code, b.code, x.code]
  | .movPairR8 b x r => [Variant.opcode .movPairR8, b.code, x.code, r.code]
  | .movMemImm8 a v => [Variant.opcode .movMemImm8, loByte a, hiByte a, v]
  | .movMemImm16 a v => [Variant.opcode .movMemImm16, loByte a, hiByte a, loByte v, hiByte v]
  | .xchgR16R16 d r => [Variant.opcode .xchgR16R16, d.code, r.code]
  | .xchgR8R8 d r => [Variant.opcode .xchgR8R8, d.code, r.code]
  | .addR16R16 d r => [Variant.opcode .addR16R16, d.code, r.code]
  | .addR8R8 d r => [Variant.opcode .addR8R8, d.code, r.code]
  | .addR16Imm d v => [Variant.opcode .addR16Imm, d.code, loByte v, hiByte v]
  | .addR8Imm d v => [Variant.opcode .addR8Imm, d.code, v]
  | .adcR16R16 d r => [Variant.opcode .adcR16R16, d.code, r.code]
  | .adcR8R8 d r => [Variant.opcode .adcR8R8, d.code, r.code]
  | .adcR16Imm d v => [Variant.opcode .adcR16Imm, d.code, loByte v, hiByte v]
  | .adcR8Imm d v => [Variant.opcode .adcR8Imm, d.code, v]
  | .subR16R16 d r => [Variant.opcode .subR16R16, d.code, r.code]
  | .subR8R8 d r => [Variant.opcode .subR8R8, d.code, r.code]
  | .subR16Imm d v => [Variant.opcode .subR16Imm, d.code, loByte v, hiByte v]
  | .subR8Imm d v => [Variant.opcode .subR8Imm, d.code, v]
  | .sbbR16R16 d r => [Variant.opcode .sbbR16R16, d.code, r.code]
  | .sbbR8R8 d r => [Variant.opcode .sbbR8R8, d.code, r.code]
  | .sbbR16Imm d v => [Variant.opcode .sbbR16Imm, d.code, loByte v, hiByte v]
  | .sbbR8Imm d v => [Variant.opcode .sbbR8Imm, d.code, v]
  | .cmpR16R16 d r => [Variant.opcode .cmpR16R16, d.code, r.code]
  | .cmpR8R8 d r => [Variant.opcode .cmpR8R8, d.code, r.code]
  | .cmpR16Imm d v => [Variant.opcode .cmpR16Imm, d.code, loByte v, hiByte v]
  | .cmpR8Imm d v => [Variant.opcode .cmpR8Imm, d.code, v]
  | .andR16R16 d r => [Variant.opcode .andR16R16, d.code, r.code]
  | .andR8R8 d r => [Variant.opcode .andR8R8, d.code, r.code]
  | .andR16Imm d v => [Variant.opcode .andR16Imm, d.code, loByte v, hiByte v]
  | .andR8Imm d v => [Variant.opcode .andR8Imm, d.code, v]
  | .orR16R16 d r => [Variant.opcode .orR16R16, d.code, r.code]
  | .orR8R8 d r => [Variant.opcode .orR8R8, d.code, r.code]
  | .orR16Imm d v => [Variant.opcode .orR16Imm, d.code, loByte v, hiByte v]
  | .orR8Imm d v => [Variant.opcode .orR8Imm, d.code, v]
  | .xorR16R16 d r => [Variant.opcode .xorR16R16, d.code, r.code]
  | .xorR8R8 d r => [Variant.opcode .xorR8R8, d.code, r.code]
  | .xorR16Imm d v => [Variant.opcode .xorR16Imm, d.code, loByte v, hiByte v]
  | .xorR8Imm d v => [Variant.opcode .xorR8Imm, d.code, v]
  | .incR16 d => [Variant.opcode .incR16, d.code]
  | .incR8 d => [Variant.opcode .incR8, d.code]
  | .decR16 d => [Variant.opcode .decR16, d.code]
  | .decR8 d => [Variant.opcode .decR8, d.code]
  | .notR16 d => [Variant.opcode .notR16, d.code]
  | .notR8 d => [Variant.opcode .notR8, d.code]
  | .pushR16 r => [Variant.opcode .pushR16, r.code]
  | .popR16 d => [Variant.opcode .popR16, d.code]
  | .shlR16Imm d n => [Variant.opcode .shlR16Imm, d.code, n]
  | .shlR16Cl d => [Variant.opcode .shlR16Cl, d.code, clCode]
  | .shlR8Imm d n => [Variant.opcode .shlR8Imm, d.code, n]
  | .shlR8Cl d => [Variant.opcode .shlR8Cl, d.code, clCode]
  | .shrR16Imm d n => [Variant.opcode .shrR16Imm, d.code, n]
  | .shrR16Cl d => [Variant.opcode .shrR16Cl, d.code, clCode]
  | .shrR8Imm d n => [Variant.opcode .shrR8Imm, d.code, n]
  | .shrR8Cl d => [Variant.opcode .shrR8Cl, d.code, clCode]
  | .sarR16Imm d n => [Variant.opcode .sarR16Imm, d.code, n]
  | .sarR16Cl d => [Variant.opcode .sarR16Cl, d.code, clCode]
  | .sarR8Imm d n => [Variant.opcode .sarR8Imm, d.code, n]
  | .sarR8Cl d => [Variant.opcode .sarR8Cl, d.code, clCode]
  | .rolR16Imm d n => [Variant.opcode .rolR16Imm, d.code, n]
  | .rolR16Cl d => [Variant.opcode .rolR16Cl, d.code, clCode]
  | .rolR8Imm d n => [Variant.opcode .rolR8Imm, d.code, n]
  | .rolR8Cl d => [Variant.opcode .rolR8Cl, d.code, clCode]
  | .rorR16Imm d n => [Variant.opcode .rorR16Imm, d.code, n]
  | .rorR16Cl d => [Variant.opcode .rorR16Cl, d.code, clCode]
  | .rorR8Imm d n => [Variant.opcode .rorR8Imm, d.code, n]
  | .rorR8Cl d => [Variant.opcode .rorR8Cl, d.code, clCode]
  | .rclR16Imm d n => [Variant.opcode .rclR16Imm, d.code, n]
  | .rclR16Cl d => [Variant.opcode .rclR16Cl, d.code, clCode]
  | .rclR8Imm d n => [Variant.opcode .rclR8Imm, d.code, n]
  | .rclR8Cl d => [Variant.opcode .rclR8Cl, d.code, clCode]
  | .rcrR16Imm d n => [Variant.opcode .rcrR16Imm, d.code, n]
  | .rcrR16Cl d => [Variant.opcode .rcrR16Cl, d.code, clCode]
  | .rcrR8Imm d n => [Variant.opcode .rcrR8Imm, d.code, n]
  | .rcrR8Cl d => [Variant.opcode .rcrR8Cl, d.code, clCode]

/-! ## The decoder on a table word -/

/-- Byte `k` of an instruction whose bits are `w`, bit 0 the least significant bit of its first byte; bits from `nbits` up
are 0. -/
def tableByte (nbits w k : Nat) : Byte := BitVec.ofNat 8 ((w % 2 ^ nbits) / 2 ^ (8 * k))

/-- The five bytes of the longest instruction, from a table word. -/
def tableBytes (nbits w : Nat) : List Byte :=
  [tableByte nbits w 0, tableByte nbits w 1, tableByte nbits w 2, tableByte nbits w 3, tableByte nbits w 4]

/-- The instruction the decoder reads from an instruction whose bits are `w`, none where it refuses
(notes/assumptions/28.md: safe). -/
def decodeTableWord (nbits w : Nat) : Option Instr :=
  match decodeBytes (tableBytes nbits w) with
  | .ok (i, _) => some i
  | .error _ => none

end Sys2Proof
end

