-- ==== Sys2Proof/Config.lean ====
section
/-! DEFINITION. The parameters of the machine at the defaults the spec decides (00_scope.md R4 and the list that ends
92_eei_decisions.md), and the values the spec leaves free. `OPMAP` is the table
`Variant.opcode` of Decode.lean, `REGCODE16` and `REGCODE8` are `Reg16.code` and `Reg8.code` of Machine/RegCodes.lean, `VARIANTS`
is the type `Variant` of WellFormed.lean. -/

namespace Sys2Proof.Config

/-- `MEMSIZE`: the number of memory bytes (00_scope.md R4). -/
@[reducible, simp] def memSize : Nat := 65536

/-- `SP_RESET` (10_state.md R26, 92_eei_decisions.md D7). UNVERIFIED, notes/assumptions/3.md: unsafe. -/
@[reducible, simp] def spReset : Word := 0xFFFE

/-- `FLAGS_RESET`, the value of each of the four flags (10_state.md R26, D8). UNVERIFIED, notes/assumptions/3.md: unsafe. -/
@[reducible, simp] def flagsReset : Bool := false

/-- `MEM_INIT`: what a memory byte holds after reset, before a load (10_state.md R26, D9). UNVERIFIED,
notes/assumptions/3.md: unsafe. -/
@[reducible, simp] def memInit : Byte := 0x00

/-- The values that `WORD_AT_FFFF` may take (92_eei_decisions.md D10, 93_implementation_defined.md U1). -/
inductive WordAtFfff where
  /-- The second byte of a word at 0xFFFF is at 0x0000. -/
  | wrap
  /-- The second byte of such a read is any value, that of such a write is dropped. -/
  | unspecified
deriving DecidableEq, Repr

/-- `WORD_AT_FFFF`: what a 16-bit access at address 0xFFFF does (20_memory.md R43, R45, D10). UNVERIFIED,
notes/assumptions/5.md: unsafe. -/
@[reducible, simp] def wordAtFfff : WordAtFfff := .wrap

/-- FREE VALUE, read only where `WORD_AT_FFFF` is `unspecified`, which it is not: the second byte of a word read at 0xFFFF by
the instruction at this address (93_implementation_defined.md U1, notes/assumptions/5.md). Nothing can be proved of it. -/
opaque byteBeyondTop : Addr → Byte

/-- `IP_WRAP`: instruction addresses are taken modulo this number (10_state.md R17, 30_encoding.md R72, D11). UNVERIFIED,
notes/assumptions/6.md: unsafe. -/
@[reducible, simp] def ipWrap : Nat := 65536

/-- The mask of a shift count. The spec has none: the count is the full byte, 0 to 255 (43_shift_rotate.md R241, D17).
UNVERIFIED, notes/assumptions/12.md: unsafe. -/
@[reducible, simp] def shiftCountMask : Byte := 0xFF

/-- `EXTRA_REG_NAMES`: the name of the extra general register (10_state.md R10, D3). UNVERIFIED, notes/assumptions/4.md:
unsafe. -/
@[reducible, simp] def extraRegName : List Char := ['E', 'X']

/-- `EXTRA_REG_NAMES`: the name of its low view (10_state.md R11, D3). UNVERIFIED, notes/assumptions/4.md: unsafe. -/
@[reducible, simp] def extraLowName : List Char := ['E', 'L']

/-- `EXTRA_REG_NAMES`: the name of its high view (10_state.md R11, D3). UNVERIFIED, notes/assumptions/4.md: unsafe. -/
@[reducible, simp] def extraHighName : List Char := ['E', 'H']

/-- `HALT_ADVANCES_IP` (45_system.md R320, D13). UNVERIFIED, notes/assumptions/8.md: unsafe. -/
@[reducible, simp] def haltAdvancesIp : Bool := true

/-- `INC_DEC_WRITE_CF` (41_arithmetic.md R164, R165, D16). UNVERIFIED, notes/assumptions/11.md: unsafe. -/
@[reducible, simp] def incDecWriteCf : Bool := false

/-- `SHIFT_WRITES_ZS`: whether SHL, SHR and SAR write ZF and SF (43_shift_rotate.md R242 to R244, D19). UNVERIFIED,
notes/assumptions/12.md: unsafe. -/
@[reducible, simp] def shiftWritesZs : Bool := true

/-- The largest image the host may load (60_exceptions.md R346). -/
@[reducible, simp] def maxImage : Nat := memSize

/-- FREE VALUE. The length that pass 1 of the two-pass driver assumes for the line of this number when pass 2 will
reject that line: "a line that pass 2 will reject contributes an unspecified length in pass 1" (30_encoding.md R104,
93_implementation_defined.md U15, notes/assumptions/25.md). Nothing can be proved of it. -/
opaque rejectedLineLength : Nat → Nat

end Sys2Proof.Config
end

