-- ==== Sys2Proof/Machine/State.lean ====
section
/-! DEFINITION. The state of the machine as plain data: "the tuple (nine 16-bit registers, IP, CF, ZF, SF, OF, the 65,536
memory bytes, RS)" (10_state.md, opening), the reasons a step may stop outside it, and the state after reset. -/

namespace Sys2Proof.Machine

/-- The register file: nine 16-bit slots (10_state.md R10). The 8-bit views are read and written through them (R12). -/
structure Regs where
  ax : Word
  bx : Word
  cx : Word
  dx : Word
  ex : Word
  sp : Word
  bp : Word
  si : Word
  di : Word
deriving DecidableEq, Repr

/-- The four independent flags Carry, Zero, Sign, Overflow (10_state.md R18). They are packed into no register. -/
structure Flags where
  cf : Bool
  zf : Bool
  sf : Bool
  of : Bool
deriving DecidableEq, Repr

/-- The fault record (10_state.md R22). -/
inductive FaultReason where
  /-- The byte `op` fetched at `ip` is no assigned opcode (60_exceptions.md R331). -/
  | unknownOpcode (op : Byte) (ip : Addr)
  /-- The register-code byte `code` of the instruction at `ip` names no register of the width its place calls for
  (60_exceptions.md R332). -/
  | badRegister (code : Byte) (ip : Addr)
deriving DecidableEq, Repr

/-- The run state `RS` (10_state.md R21); the reason record exists only in `faulted` (R23, notes/assumptions/27.md). -/
inductive RunState where
  | running
  | halted
  | faulted (reason : FaultReason)
deriving DecidableEq, Repr

/-- Memory as the listed bytes that differ from `Config.memInit`, addresses strictly rising (notes/assumptions/26.md). -/
abbrev Memory := List Host.Cell

structure State where
  regs  : Regs
  ip    : Addr
  flags : Flags
  mem   : Memory
  rs    : RunState
deriving DecidableEq, Repr

/-- A step that stops outside the state with a fault. There is none: the two faults of this machine ARE transitions of
the state, to `RS = Faulted(reason)` (60_exceptions.md R330), and are answered as next states (notes/assumptions/1.md:
safe). No access can leave the address space (20_memory.md R42). -/
inductive Fault where
deriving DecidableEq, Repr

/-- A step that has no meaning in the model. -/
inductive Refusal where
  /-- Raised by `exec` for an instruction the model gives no meaning; no arm of `exec` raises it. Safe. -/
  | notModelled (mnemonic : String)
deriving DecidableEq, Repr

/-- The registers after reset (10_state.md R26, 70_reset_and_hazards.md R370). -/
def Regs.reset : Regs where
  ax := 0
  bx := 0
  cx := 0
  dx := 0
  ex := 0
  sp := Config.spReset
  bp := 0
  si := 0
  di := 0

/-- The flags after reset (10_state.md R26). -/
def Flags.reset : Flags := ⟨Config.flagsReset, Config.flagsReset, Config.flagsReset, Config.flagsReset⟩

/-- The machine right after reset, before the host loads an image (10_state.md R26, 70_reset_and_hazards.md R370 to R373):
execution starts at address 0, `Running`, every memory byte `MEM_INIT`. -/
def State.reset : State where
  regs  := Regs.reset
  ip    := 0
  flags := Flags.reset
  mem   := []
  rs    := .running

end Sys2Proof.Machine
end

