-- ==== Sys2Proof/Machine/Ops.lean ====
section
/-! DEFINITION. The named operations over registers, memory, IP and RS: the only ways a meaning touches the state
(00_scope.md R7). -/

namespace Sys2Proof.Machine

/-! ## Registers (10_state.md R10 to R14) -/

def Regs.get (g : Regs) : Reg16 → Word
  | .ax => g.ax
  | .bx => g.bx
  | .cx => g.cx
  | .dx => g.dx
  | .ex => g.ex
  | .sp => g.sp
  | .bp => g.bp
  | .si => g.si
  | .di => g.di

def Regs.set (g : Regs) (r : Reg16) (v : Word) : Regs :=
  match r with
  | .ax => { g with ax := v }
  | .bx => { g with bx := v }
  | .cx => { g with cx := v }
  | .dx => { g with dx := v }
  | .ex => { g with ex := v }
  | .sp => { g with sp := v }
  | .bp => { g with bp := v }
  | .si => { g with si := v }
  | .di => { g with di := v }

/-- The 16-bit register a view is half of (10_state.md R11). -/
def parentOf : Reg8 → Reg16
  | .al | .ah => .ax
  | .bl | .bh => .bx
  | .cl | .ch => .cx
  | .dl | .dh => .dx
  | .el | .eh => .ex

/-- Whether a view is bits 15 to 8 of its parent (the H views) or bits 7 to 0 (the L views) (10_state.md R11).
PRESUMED by the spec itself (93_implementation_defined.md G1), notes/assumptions/17.md: unsafe. -/
def isHighView : Reg8 → Bool
  | .ah | .bh | .ch | .dh | .eh => true
  | .al | .bl | .cl | .dl | .el => false

/-- `x16[c]` (10_state.md R13). -/
def State.get16 (s : State) (r : Reg16) : Word := s.regs.get r

/-- `x16[c] <- v` (10_state.md R13). -/
def State.set16 (s : State) (r : Reg16) (v : Word) : State := { s with regs := s.regs.set r v }

/-- `x8[c]` (10_state.md R12, R14). -/
def State.get8 (s : State) (r : Reg8) : Byte :=
  if isHighView r then hiByte (s.get16 (parentOf r)) else loByte (s.get16 (parentOf r))

/-- `x8[c] <- v`: the named half of the parent changes, the other half is kept (10_state.md R12, R14). -/
def State.set8 (s : State) (r : Reg8) (v : Byte) : State :=
  let old := s.get16 (parentOf r)
  s.set16 (parentOf r) (if isHighView r then wordOfBytes (loByte old) v else wordOfBytes v (hiByte old))

/-! ## Memory (20_memory.md R40 to R46) -/

/-- What the byte at address `a` holds; an address no entry lists reads as `MEM_INIT` (10_state.md R26, R27). -/
def Memory.read : Memory → Nat → Byte
  | [], _ => Config.memInit
  | (k, b) :: m, a => if k = a then b else Memory.read m a

/-- `m` with no entry for address `a`. -/
def Memory.erase (m : Memory) (a : Nat) : Memory := m.filter (fun c => decide (c.1 ≠ a))

/-- `m` with the entry `(a, v)` put before the first higher address. -/
def Memory.insert : Memory → Nat → Byte → Memory
  | [], a, v => [(a, v)]
  | (k, b) :: m, a, v => if a < k then (a, v) :: (k, b) :: m else (k, b) :: Memory.insert m a v

/-- `mem[a] <- v`, in canonical form: writing `MEM_INIT` removes the entry. -/
def Memory.write (m : Memory) (a : Nat) (v : Byte) : Memory :=
  if v = Config.memInit then m.erase a else (m.erase a).insert a v

/-- Addresses strictly rising from `lo` up, inside the address space, no entry equal to `MEM_INIT`. -/
def Memory.wfFrom (lo : Nat) : Memory → Bool
  | [] => true
  | (k, b) :: m => decide (lo ≤ k) && decide (k < Config.memSize) && decide (b ≠ Config.memInit) && Memory.wfFrom (k + 1) m

/-- The canonical form of a memory: equal memories are equal lists. -/
def Memory.wf (m : Memory) : Bool := m.wfFrom 0

/-- `MemRead(addr, 1)` (20_memory.md R42). -/
def State.mem8 (s : State) (a : Addr) : Byte := s.mem.read a.toNat

/-- `MemWrite(addr, 1, v)` (20_memory.md R44). -/
def State.setMem8 (s : State) (a : Addr) (v : Byte) : State := { s with mem := s.mem.write a.toNat v }

/-- Where the second byte of a word access lies: `trunc_16(addr + 1)` (20_memory.md R41, R43, R45). -/
def secondByteAddr (a : Addr) : Addr := a + 1

/-- The second byte of a word read at `a`; at 0xFFFF it is as `WORD_AT_FFFF` says (20_memory.md R43, D10, U1). UNVERIFIED,
notes/assumptions/5.md: unsafe. -/
def State.readSecond (s : State) (a : Addr) : Byte :=
  match Config.wordAtFfff with
  | .wrap => s.mem8 (secondByteAddr a)
  | .unspecified => if a = 0xFFFF then Config.byteBeyondTop s.ip else s.mem8 (secondByteAddr a)

/-- The second byte of a word written at `a`; at 0xFFFF it is as `WORD_AT_FFFF` says (20_memory.md R45, D10, U1). UNVERIFIED,
notes/assumptions/5.md: unsafe. -/
def State.writeSecond (s : State) (a : Addr) (v : Byte) : State :=
  match Config.wordAtFfff with
  | .wrap => s.setMem8 (secondByteAddr a) v
  | .unspecified => if a = 0xFFFF then s else s.setMem8 (secondByteAddr a) v

/-- `MemRead(addr, 2)`: little-endian (20_memory.md R43). -/
def State.mem16 (s : State) (a : Addr) : Word := wordOfBytes (s.mem8 a) (s.readSecond a)

/-- `MemWrite(addr, 2, v)`: low byte first (20_memory.md R45). -/
def State.setMem16 (s : State) (a : Addr) (v : Word) : State := (s.setMem8 a (loByte v)).writeSecond a (hiByte v)

/-- `s` with the bytes `bs` stored from address `a` up. -/
def State.storeBytes (s : State) (a : Addr) : List Byte → State
  | [] => s
  | b :: bs => (s.setMem8 a b).storeBytes (a + 1) bs

/-! ## Instruction pointer, flags and fetch -/

/-- `IP <- t` (10_state.md R16). -/
def State.setIp (s : State) (t : Addr) : State := { s with ip := t }

/-- The instruction address `k` bytes behind `ip`, modulo `IP_WRAP` (10_state.md R17, 30_encoding.md R72, D11). UNVERIFIED,
notes/assumptions/6.md: unsafe. -/
def instrAddr (ip : Addr) (k : Nat) : Addr := BitVec.ofNat 16 ((ip.toNat + k) % Config.ipWrap)

/-- `IP <- trunc_16(IP + len)` (10_state.md R17). -/
def State.advance (s : State) (len : Nat) : State := s.setIp (instrAddr s.ip len)

def State.setFlags (s : State) (f : Flags) : State := { s with flags := f }

/-- `Fetch8(k)`: byte `k` of the current instruction, wrapping at the top of memory (30_encoding.md R72). -/
def State.fetch8 (s : State) (k : Nat) : Byte := s.mem8 (instrAddr s.ip k)

/-! ## The stack (44_control_and_stack.md R302): full, descending, in memory -/

/-- `SP <- trunc_16(SP - 2)`. -/
def State.decSp (s : State) : State := s.set16 .sp (s.get16 .sp - 2)

/-- `SP <- trunc_16(SP + 2)`. -/
def State.incSp (s : State) : State := s.set16 .sp (s.get16 .sp + 2)

/-- `MemWrite(SP, 2, v)`. -/
def State.storeTop (s : State) (v : Word) : State := s.setMem16 (s.get16 .sp) v

/-- `MemRead(SP, 2)`. -/
def State.loadTop (s : State) : Word := s.mem16 (s.get16 .sp)

/-! ## Taking a fault (60_exceptions.md R330 to R338)

There is no return from a fault: nothing but the host's reset leaves `Faulted` (R338), and that is `State.reset`. -/

/-- `raise reason`: RS becomes `Faulted(reason)` and nothing else changes, IP included (R331, R332, R337). -/
def State.raise (s : State) (reason : FaultReason) : State := { s with rs := .faulted reason }

/-- The record of a fault raised at decode: the offending byte and the value of IP (10_state.md R22). -/
def State.reasonOf (s : State) : DecodeFault → FaultReason
  | .unknownOpcode op => .unknownOpcode op s.ip
  | .badRegister code => .badRegister code s.ip

/-- Taking a fault raised at decode (30_encoding.md R73). -/
def State.takeFault (s : State) (e : DecodeFault) : State := s.raise (s.reasonOf e)

/-- The numeric kind of a fault reason (60_exceptions.md R333). -/
def FaultReason.kind : FaultReason → Nat
  | .unknownOpcode _ _ => 1
  | .badRegister _ _ => 2

/-- The numeric fault kind of a run state; 0 means no fault (60_exceptions.md R333). -/
def RunState.faultKind : RunState → Nat
  | .running => 0
  | .halted => 0
  | .faulted reason => reason.kind

end Sys2Proof.Machine
end

