-- ==== Sys2Proof/Machine/Operands.lean ====
section
/-! DEFINITION. The operand forms (30_encoding.md R81) and what reads or writes through each. -/

namespace Sys2Proof.Machine

/-- The three shapes of a memory operand (40_data_movement.md R131). -/
inductive MemOperand where
  /-- `[imm16]` -/
  | direct (addr : Addr)
  /-- `[r16]` -/
  | indirect (base : Reg16)
  /-- `[r16+r16]` -/
  | pair (base index : Reg16)
deriving DecidableEq, Repr

/-- The effective address, from the register values before the instruction writes any (40_data_movement.md R131, D24). -/
def State.ea (s : State) : MemOperand → Addr
  | .direct a => a
  | .indirect b => s.get16 b
  | .pair b i => s.get16 b + s.get16 i

/-- A 16-bit source operand: `r16` or `imm16` (30_encoding.md R81). -/
inductive Src16 where
  | reg (r : Reg16)
  | imm (v : Word)
deriving DecidableEq, Repr

/-- An 8-bit source operand: `r8` or `imm8` (30_encoding.md R79, R81). -/
inductive Src8 where
  | reg (r : Reg8)
  | imm (v : Byte)
deriving DecidableEq, Repr

def State.src16 (s : State) : Src16 → Word
  | .reg r => s.get16 r
  | .imm v => v

def State.src8 (s : State) : Src8 → Byte
  | .reg r => s.get8 r
  | .imm v => v

/-- The source of a count: an immediate byte or CL (43_shift_rotate.md R241). -/
inductive CountSrc where
  | imm (n : Byte)
  | cl
deriving DecidableEq, Repr

/-- The byte a count is taken from (43_shift_rotate.md R241). -/
def State.countByte (s : State) : CountSrc → Byte
  | .imm n => n
  | .cl => s.get8 .cl

/-- The count, sampled before the first iteration, under a mask that keeps every bit: 0 to 255 (43_shift_rotate.md R241, D17,
D20). UNVERIFIED, notes/assumptions/12.md: unsafe. -/
def State.count (s : State) (c : CountSrc) : Nat := (s.countByte c &&& Config.shiftCountMask).toNat

/-- Whether the count is taken from CL, which the Overflow gate of the rotates asks (43_shift_rotate.md R249). -/
def CountSrc.isCl : CountSrc → Bool
  | .imm _ => false
  | .cl => true

/-! ## Loads and stores of the MOV memory forms (40_data_movement.md R131): one access of the other operand's width -/

def State.load16 (s : State) (d : Reg16) (m : MemOperand) : State := s.set16 d (s.mem16 (s.ea m))

def State.load8 (s : State) (d : Reg8) (m : MemOperand) : State := s.set8 d (s.mem8 (s.ea m))

def State.store16 (s : State) (m : MemOperand) (src : Src16) : State := s.setMem16 (s.ea m) (s.src16 src)

def State.store8 (s : State) (m : MemOperand) (src : Src8) : State := s.setMem8 (s.ea m) (s.src8 src)

/-! ## Writing back a result with its flags -/

def State.writeBack16 (s : State) (d : Reg16) (r : Word × Flags) : State := (s.set16 d r.1).setFlags r.2

def State.writeBack8 (s : State) (d : Reg8) (r : Byte × Flags) : State := (s.set8 d r.1).setFlags r.2

end Sys2Proof.Machine
end

