-- ==== Sys2Proof/Machine/Flags.lean ====
section
/-! DEFINITION. The flag arithmetic unit (41_arithmetic.md R161 to R166) and the flags of shifts and rotates
(43_shift_rotate.md R242 to R249). `dest`, `src` and `result` are integers, the result widened: it may exceed the width or
be negative (41_arithmetic.md section 2). -/

namespace Sys2Proof.Machine

/-- `trunc_w(v)` as a `w`-bit value (00_scope.md R6). -/
def truncW (w : Nat) (v : Int) : BitVec w := BitVec.ofInt w v

/-- `msb_w(v)`: bit `w-1` of `trunc_w(v)` (00_scope.md R6). -/
def msbW (w : Nat) (v : Int) : Bool := (truncW w v).msb

/-- `trunc_w(v) == 0`, the Zero rule (10_state.md R20). -/
def zeroW (w : Nat) (v : Int) : Bool := truncW w v == 0#w

/-- `MAX_w` (00_scope.md R6). -/
def maxW (w : Nat) : Int := 2 ^ w - 1

/-- `flags_add_w` (41_arithmetic.md R161). -/
def flagsAdd (w : Nat) (dest src result : Int) : Flags where
  cf := decide (result > maxW w)
  zf := zeroW w result
  sf := msbW w result
  of := (msbW w dest == msbW w src) && (msbW w result != msbW w dest)

/-- `flags_sub_w` (41_arithmetic.md R162). -/
def flagsSub (w : Nat) (dest src result : Int) : Flags where
  cf := decide (dest < src)
  zf := zeroW w result
  sf := msbW w result
  of := (msbW w dest != msbW w src) && (msbW w src == msbW w result)

/-- `flags_logic_w` (41_arithmetic.md R163). -/
def flagsLogic {w : Nat} (result : BitVec w) : Flags where
  cf := false
  zf := result == 0#w
  sf := result.msb
  of := false

/-- `flags_inc_w` (41_arithmetic.md R164); CF keeps its value (D16). UNVERIFIED, notes/assumptions/11.md: unsafe. -/
def flagsInc (w : Nat) (old : Flags) (dest result : Int) : Flags where
  cf := if Config.incDecWriteCf then decide (result > maxW w) else old.cf
  zf := zeroW w result
  sf := msbW w result
  of := decide (dest = 2 ^ (w - 1) - 1)

/-- `flags_dec_w` (41_arithmetic.md R165); CF keeps its value (D16). UNVERIFIED, notes/assumptions/11.md: unsafe. -/
def flagsDec (w : Nat) (old : Flags) (dest result : Int) : Flags where
  cf := if Config.incDecWriteCf then decide (dest < 1) else old.cf
  zf := zeroW w result
  sf := msbW w result
  of := decide (dest = 2 ^ (w - 1))

/-- The carry fold of ADC and SBB: `src' = src + CF`, on unbounded integers, so that it may be `2^w` (41_arithmetic.md
R166, D15). UNVERIFIED, notes/assumptions/10.md: unsafe. -/
def foldCarry (src : Int) (cf : Bool) : Int := src + cf.toInt

/-! ## Arithmetic and logic with their flags -/

/-- ADD and ADC: the truncated sum and `flags_add_w` (41_arithmetic.md R160, R161). -/
def addWith {w : Nat} (dest : BitVec w) (src : Int) : BitVec w × Flags :=
  let result := (dest.toNat : Int) + src
  (truncW w result, flagsAdd w dest.toNat src result)

/-- SUB, SBB and CMP: the truncated difference and `flags_sub_w` (41_arithmetic.md R160, R162). -/
def subWith {w : Nat} (dest : BitVec w) (src : Int) : BitVec w × Flags :=
  let result := (dest.toNat : Int) - src
  (truncW w result, flagsSub w dest.toNat src result)

/-- INC (41_arithmetic.md R160, R164). -/
def incWith {w : Nat} (dest : BitVec w) (old : Flags) : BitVec w × Flags :=
  let result := (dest.toNat : Int) + 1
  (truncW w result, flagsInc w old dest.toNat result)

/-- DEC (41_arithmetic.md R160, R165). -/
def decWith {w : Nat} (dest : BitVec w) (old : Flags) : BitVec w × Flags :=
  let result := (dest.toNat : Int) - 1
  (truncW w result, flagsDec w old dest.toNat result)

/-- AND, OR, XOR, NOT: the result and `flags_logic_w` (42_logic.md R210, 41_arithmetic.md R163). -/
def logicWith {w : Nat} (result : BitVec w) : BitVec w × Flags := (result, flagsLogic result)

/-! ## Shifts and rotates (43_shift_rotate.md) -/

/-- The seven operations of the family (43_shift_rotate.md R240). -/
inductive ShiftOp where
  | shl | shr | sar | rol | ror | rcl | rcr
deriving DecidableEq, Repr

/-- SHL, SHR and SAR write ZF and SF; the rotates never do (43_shift_rotate.md R242 to R248, D19). -/
def ShiftOp.isShift : ShiftOp → Bool
  | .shl | .shr | .sar => true
  | .rol | .ror | .rcl | .rcr => false

/-- A flag as the `w`-bit number 0 or 1. -/
def bitW (w : Nat) (b : Bool) : BitVec w := BitVec.ofNat w b.toNat

/-- One single-bit iteration on the value and CF (43_shift_rotate.md R242 to R248). The directions and fills are PRESUMED
by the spec itself (G3), notes/assumptions/17.md: unsafe. -/
def ShiftOp.once {w : Nat} (op : ShiftOp) (v : BitVec w) (cf : Bool) : BitVec w × Bool :=
  match op with
  | .shl => (v <<< 1, v.msb)
  | .shr => (v >>> 1, v.getLsbD 0)
  | .sar => ((v >>> 1) ||| (v &&& BitVec.twoPow w (w - 1)), v.getLsbD 0)
  | .rol => ((v <<< 1) ||| bitW w v.msb, v.msb)
  | .ror => ((v >>> 1) ||| (bitW w (v.getLsbD 0) <<< (w - 1)), v.getLsbD 0)
  | .rcl => ((v <<< 1) ||| bitW w cf, v.msb)
  | .rcr => ((v >>> 1) ||| (bitW w cf <<< (w - 1)), v.getLsbD 0)

/-- `repeat count times` (43_shift_rotate.md R240). -/
def ShiftOp.loop {w : Nat} (op : ShiftOp) : Nat → BitVec w → Bool → BitVec w × Bool
  | 0, v, cf => (v, cf)
  | n + 1, v, cf => op.loop n (op.once v cf).1 (op.once v cf).2

/-- When OF is written, for a count that is not 0 (the table of 43_shift_rotate.md R249, D18, 90_conflicts.md C4, C6).
UNVERIFIED, notes/assumptions/12.md: unsafe. -/
def ShiftOp.writesOf (op : ShiftOp) (byCl : Bool) (w count : Nat) : Bool :=
  match op with
  | .sar => true
  | .shl | .shr => count == 1
  | .rol | .ror | .rcl | .rcr => if byCl then count % w == 1 else count == 1

/-- What OF is written with, from the value before and the value and CF after the loop (43_shift_rotate.md R249). The
formulas are PRESUMED by the spec itself (G4), notes/assumptions/17.md: unsafe. -/
def ShiftOp.ofValue {w : Nat} (op : ShiftOp) (orig v : BitVec w) (cf : Bool) : Bool :=
  match op with
  | .shl | .rol | .rcl => v.msb ^^ cf
  | .shr => orig.msb
  | .ror | .rcr => v.msb ^^ v.getLsbD (w - 2)
  | .sar => false

/-- The whole operation: with count 0 the value and all four flags are as they were (43_shift_rotate.md R240). -/
def ShiftOp.apply {w : Nat} (op : ShiftOp) (byCl : Bool) (count : Nat) (orig : BitVec w) (old : Flags) : BitVec w × Flags :=
  if count = 0 then (orig, old)
  else
    let out := op.loop count orig old.cf
    let writeZs := op.isShift && Config.shiftWritesZs
    (out.1,
      { cf := out.2
        zf := if writeZs then out.1 == 0#w else old.zf
        sf := if writeZs then out.1.msb else old.sf
        of := if op.writesOf byCl w count then op.ofValue orig out.1 out.2 else old.of })

/-- A shift or rotate of a 16-bit register (43_shift_rotate.md R240). -/
def State.shift16 (s : State) (op : ShiftOp) (d : Reg16) (c : CountSrc) : State :=
  s.writeBack16 d (op.apply c.isCl (s.count c) (s.get16 d) s.flags)

/-- A shift or rotate of an 8-bit view (43_shift_rotate.md R240). -/
def State.shift8 (s : State) (op : ShiftOp) (d : Reg8) (c : CountSrc) : State :=
  s.writeBack8 d (op.apply c.isCl (s.count c) (s.get8 d) s.flags)

end Sys2Proof.Machine
end

