-- ==== Sys2Proof/Machine/Arithmetic.lean ====
section
/-! DEFINITION. ADD, ADC, SUB, SBB, CMP, INC and DEC (41_arithmetic.md R160 to R193). `dest` is the first operand,
`src` the second; both are read before anything is written. -/

namespace Sys2Proof.Machine

/-! ### ADD -/

/-- `ADD r16,r16`: dest + src (R170). -/
def execAddR16R16 (d r : Reg16) (s : State) : Host.Outcome State Fault Refusal :=
  .next (s.writeBack16 d (addWith (s.get16 d) (s.get16 r).toNat) |>.advance 3)

/-- `ADD r8,r8`: dest + src (R171). -/
def execAddR8R8 (d r : Reg8) (s : State) : Host.Outcome State Fault Refusal :=
  .next (s.writeBack8 d (addWith (s.get8 d) (s.get8 r).toNat) |>.advance 3)

/-- `ADD r16,imm16`: dest + src (R172). -/
def execAddR16Imm (d : Reg16) (v : Word) (s : State) : Host.Outcome State Fault Refusal :=
  .next (s.writeBack16 d (addWith (s.get16 d) v.toNat) |>.advance 4)

/-- `ADD r8,imm8`: dest + src (R173). -/
def execAddR8Imm (d : Reg8) (v : Byte) (s : State) : Host.Outcome State Fault Refusal :=
  .next (s.writeBack8 d (addWith (s.get8 d) v.toNat) |>.advance 3)

/-! ### ADC -/

/-- `ADC r16,r16`: dest + (src + CF) (R174). -/
def execAdcR16R16 (d r : Reg16) (s : State) : Host.Outcome State Fault Refusal :=
  .next (s.writeBack16 d (addWith (s.get16 d) (foldCarry (s.get16 r).toNat s.flags.cf)) |>.advance 3)

/-- `ADC r8,r8`: dest + (src + CF) (R175). -/
def execAdcR8R8 (d r : Reg8) (s : State) : Host.Outcome State Fault Refusal :=
  .next (s.writeBack8 d (addWith (s.get8 d) (foldCarry (s.get8 r).toNat s.flags.cf)) |>.advance 3)

/-- `ADC r16,imm16`: dest + (src + CF) (R176). -/
def execAdcR16Imm (d : Reg16) (v : Word) (s : State) : Host.Outcome State Fault Refusal :=
  .next (s.writeBack16 d (addWith (s.get16 d) (foldCarry v.toNat s.flags.cf)) |>.advance 4)

/-- `ADC r8,imm8`: dest + (src + CF) (R177). -/
def execAdcR8Imm (d : Reg8) (v : Byte) (s : State) : Host.Outcome State Fault Refusal :=
  .next (s.writeBack8 d (addWith (s.get8 d) (foldCarry v.toNat s.flags.cf)) |>.advance 3)

/-! ### SUB -/

/-- `SUB r16,r16`: dest - src (R178). -/
def execSubR16R16 (d r : Reg16) (s : State) : Host.Outcome State Fault Refusal :=
  .next (s.writeBack16 d (subWith (s.get16 d) (s.get16 r).toNat) |>.advance 3)

/-- `SUB r8,r8`: dest - src (R179). -/
def execSubR8R8 (d r : Reg8) (s : State) : Host.Outcome State Fault Refusal :=
  .next (s.writeBack8 d (subWith (s.get8 d) (s.get8 r).toNat) |>.advance 3)

/-- `SUB r16,imm16`: dest - src (R180). -/
def execSubR16Imm (d : Reg16) (v : Word) (s : State) : Host.Outcome State Fault Refusal :=
  .next (s.writeBack16 d (subWith (s.get16 d) v.toNat) |>.advance 4)

/-- `SUB r8,imm8`: dest - src (R181). -/
def execSubR8Imm (d : Reg8) (v : Byte) (s : State) : Host.Outcome State Fault Refusal :=
  .next (s.writeBack8 d (subWith (s.get8 d) v.toNat) |>.advance 3)

/-! ### SBB -/

/-- `SBB r16,r16`: dest - (src + CF) (R182). -/
def execSbbR16R16 (d r : Reg16) (s : State) : Host.Outcome State Fault Refusal :=
  .next (s.writeBack16 d (subWith (s.get16 d) (foldCarry (s.get16 r).toNat s.flags.cf)) |>.advance 3)

/-- `SBB r8,r8`: dest - (src + CF) (R183). -/
def execSbbR8R8 (d r : Reg8) (s : State) : Host.Outcome State Fault Refusal :=
  .next (s.writeBack8 d (subWith (s.get8 d) (foldCarry (s.get8 r).toNat s.flags.cf)) |>.advance 3)

/-- `SBB r16,imm16`: dest - (src + CF) (R184). -/
def execSbbR16Imm (d : Reg16) (v : Word) (s : State) : Host.Outcome State Fault Refusal :=
  .next (s.writeBack16 d (subWith (s.get16 d) (foldCarry v.toNat s.flags.cf)) |>.advance 4)

/-- `SBB r8,imm8`: dest - (src + CF) (R185). -/
def execSbbR8Imm (d : Reg8) (v : Byte) (s : State) : Host.Outcome State Fault Refusal :=
  .next (s.writeBack8 d (subWith (s.get8 d) (foldCarry v.toNat s.flags.cf)) |>.advance 3)

/-! ### CMP -/

/-- `CMP r16,r16`: The flags of dest - src; no register is written (R186). -/
def execCmpR16R16 (d r : Reg16) (s : State) : Host.Outcome State Fault Refusal :=
  .next (s.setFlags (subWith (s.get16 d) (s.get16 r).toNat).2 |>.advance 3)

/-- `CMP r8,r8`: The flags of dest - src; no register is written (R187). -/
def execCmpR8R8 (d r : Reg8) (s : State) : Host.Outcome State Fault Refusal :=
  .next (s.setFlags (subWith (s.get8 d) (s.get8 r).toNat).2 |>.advance 3)

/-- `CMP r16,imm16`: The flags of dest - src; no register is written (R188). -/
def execCmpR16Imm (d : Reg16) (v : Word) (s : State) : Host.Outcome State Fault Refusal :=
  .next (s.setFlags (subWith (s.get16 d) v.toNat).2 |>.advance 4)

/-- `CMP r8,imm8`: The flags of dest - src; no register is written (R189). -/
def execCmpR8Imm (d : Reg8) (v : Byte) (s : State) : Host.Outcome State Fault Refusal :=
  .next (s.setFlags (subWith (s.get8 d) v.toNat).2 |>.advance 3)

/-! ### INC -/

/-- `INC r16`: dest + 1; CF is kept (R190). -/
def execIncR16 (d : Reg16) (s : State) : Host.Outcome State Fault Refusal :=
  .next (s.writeBack16 d (incWith (s.get16 d) s.flags) |>.advance 2)

/-- `INC r8`: dest + 1; CF is kept (R191). -/
def execIncR8 (d : Reg8) (s : State) : Host.Outcome State Fault Refusal :=
  .next (s.writeBack8 d (incWith (s.get8 d) s.flags) |>.advance 2)

/-! ### DEC -/

/-- `DEC r16`: dest - 1; CF is kept (R192). -/
def execDecR16 (d : Reg16) (s : State) : Host.Outcome State Fault Refusal :=
  .next (s.writeBack16 d (decWith (s.get16 d) s.flags) |>.advance 2)

/-- `DEC r8`: dest - 1; CF is kept (R193). -/
def execDecR8 (d : Reg8) (s : State) : Host.Outcome State Fault Refusal :=
  .next (s.writeBack8 d (decWith (s.get8 d) s.flags) |>.advance 2)

end Sys2Proof.Machine
end

