-- ==== Sys2Proof/Machine/Control.lean ====
section
/-! DEFINITION. Control transfer and the stack (44_control_and_stack.md R290 to R304). Targets are absolute (R290); a branch
that is not taken goes on at IP + 3 (D30, UNVERIFIED, notes/assumptions/18.md: unsafe). No flag is written. -/

namespace Sys2Proof.Machine

/-- A conditional branch: to the target when taken, else to the next instruction (R290, R294 to R301). -/
def State.branchIf (s : State) (taken : Bool) (target : Addr) : State :=
  if taken then s.setIp target else s.advance 3

/-- `RET`: pop an address and jump to it (R293). -/
def execRet (s : State) : Host.Outcome State Fault Refusal :=
  .next (s.incSp.setIp s.loadTop)

/-- `JMP label`: IP becomes the target (R291). -/
def execJmp (target : Addr) (s : State) : Host.Outcome State Fault Refusal :=
  .next (s.setIp target)

/-- `CALL label`: push the address of the next instruction, IP + 3, then jump (R292). -/
def execCall (target : Addr) (s : State) : Host.Outcome State Fault Refusal :=
  .next ((s.decSp.storeTop (instrAddr s.ip 3)).setIp target)

/-- `JZ label`: taken when ZF is set (R294). -/
def execJz (target : Addr) (s : State) : Host.Outcome State Fault Refusal :=
  .next (s.branchIf s.flags.zf target)

/-- `JNZ label`: taken when ZF is clear (R295). -/
def execJnz (target : Addr) (s : State) : Host.Outcome State Fault Refusal :=
  .next (s.branchIf (!s.flags.zf) target)

/-- `JC label`: taken when CF is set (R296). -/
def execJc (target : Addr) (s : State) : Host.Outcome State Fault Refusal :=
  .next (s.branchIf s.flags.cf target)

/-- `JNC label`: taken when CF is clear (R297). -/
def execJnc (target : Addr) (s : State) : Host.Outcome State Fault Refusal :=
  .next (s.branchIf (!s.flags.cf) target)

/-- `JS label`: taken when SF is set (R298). -/
def execJs (target : Addr) (s : State) : Host.Outcome State Fault Refusal :=
  .next (s.branchIf s.flags.sf target)

/-- `JNS label`: taken when SF is clear (R299). -/
def execJns (target : Addr) (s : State) : Host.Outcome State Fault Refusal :=
  .next (s.branchIf (!s.flags.sf) target)

/-- `JO label`: taken when OF is set (R300). -/
def execJo (target : Addr) (s : State) : Host.Outcome State Fault Refusal :=
  .next (s.branchIf s.flags.of target)

/-- `JNO label`: taken when OF is clear (R301). -/
def execJno (target : Addr) (s : State) : Host.Outcome State Fault Refusal :=
  .next (s.branchIf (!s.flags.of) target)

/-- `PUSH r16`: SP first, then the register, read after SP was decremented, at the new top (R303; `PUSH SP` stores the
decremented value by D21, UNVERIFIED, notes/assumptions/14.md: unsafe). -/
def execPushR16 (r : Reg16) (s : State) : Host.Outcome State Fault Refusal :=
  .next (s.decSp.storeTop (s.decSp.get16 r) |>.advance 2)

/-- `POP r16`: the word at the top into the register, then SP + 2 (R304; `POP SP` adds 2 to the popped value by D21,
UNVERIFIED, notes/assumptions/14.md: unsafe). -/
def execPopR16 (d : Reg16) (s : State) : Host.Outcome State Fault Refusal :=
  .next ((s.set16 d s.loadTop).incSp |>.advance 2)

end Sys2Proof.Machine
end

