-- ==== Sys2Proof/Machine/DataMovement.lean ====
section
/-! DEFINITION. MOV and XCHG (40_data_movement.md R130 to R152). No flag is read or written (R130). That MOV copies
and XCHG exchanges is PRESUMED by the spec itself (G2), notes/assumptions/17.md: unsafe. -/

namespace Sys2Proof.Machine

/-! ### MOV -/

/-- `MOV r16,r16`: Copy the second operand to the first (R133). -/
def execMovR16R16 (d r : Reg16) (s : State) : Host.Outcome State Fault Refusal :=
  .next (s.set16 d (s.get16 r) |>.advance 3)

/-- `MOV r8,r8`: Copy the second operand to the first (R134). -/
def execMovR8R8 (d r : Reg8) (s : State) : Host.Outcome State Fault Refusal :=
  .next (s.set8 d (s.get8 r) |>.advance 3)

/-- `MOV r16,imm16`: Copy the second operand to the first (R135). -/
def execMovR16Imm (d : Reg16) (v : Word) (s : State) : Host.Outcome State Fault Refusal :=
  .next (s.set16 d v |>.advance 4)

/-- `MOV r8,imm8`: Copy the second operand to the first (R136). -/
def execMovR8Imm (d : Reg8) (v : Byte) (s : State) : Host.Outcome State Fault Refusal :=
  .next (s.set8 d v |>.advance 3)

/-- `MOV r16,[imm16]`: Copy the second operand to the first (R137). -/
def execMovR16Mem (d : Reg16) (a : Addr) (s : State) : Host.Outcome State Fault Refusal :=
  .next (s.load16 d (.direct a) |>.advance 4)

/-- `MOV [imm16],r16`: Copy the second operand to the first (R138). -/
def execMovMemR16 (r : Reg16) (a : Addr) (s : State) : Host.Outcome State Fault Refusal :=
  .next (s.store16 (.direct a) (.reg r) |>.advance 4)

/-- `MOV r16,[r16]`: Copy the second operand to the first (R139). -/
def execMovR16Ind (d b : Reg16) (s : State) : Host.Outcome State Fault Refusal :=
  .next (s.load16 d (.indirect b) |>.advance 3)

/-- `MOV [r16],r16`: Copy the second operand to the first (R140). -/
def execMovIndR16 (b r : Reg16) (s : State) : Host.Outcome State Fault Refusal :=
  .next (s.store16 (.indirect b) (.reg r) |>.advance 3)

/-- `MOV r16,[r16+r16]`: Copy the second operand to the first (R141). -/
def execMovR16Pair (d b x : Reg16) (s : State) : Host.Outcome State Fault Refusal :=
  .next (s.load16 d (.pair b x) |>.advance 4)

/-- `MOV [r16+r16],r16`: Copy the second operand to the first (R142). -/
def execMovPairR16 (b x r : Reg16) (s : State) : Host.Outcome State Fault Refusal :=
  .next (s.store16 (.pair b x) (.reg r) |>.advance 4)

/-- `MOV r8,[imm16]`: Copy the second operand to the first (R143). -/
def execMovR8Mem (d : Reg8) (a : Addr) (s : State) : Host.Outcome State Fault Refusal :=
  .next (s.load8 d (.direct a) |>.advance 4)

/-- `MOV [imm16],r8`: Copy the second operand to the first (R144). -/
def execMovMemR8 (r : Reg8) (a : Addr) (s : State) : Host.Outcome State Fault Refusal :=
  .next (s.store8 (.direct a) (.reg r) |>.advance 4)

/-- `MOV r8,[r16]`: Copy the second operand to the first (R145). -/
def execMovR8Ind (d : Reg8) (b : Reg16) (s : State) : Host.Outcome State Fault Refusal :=
  .next (s.load8 d (.indirect b) |>.advance 3)

/-- `MOV [r16],r8`: Copy the second operand to the first (R146). -/
def execMovIndR8 (b : Reg16) (r : Reg8) (s : State) : Host.Outcome State Fault Refusal :=
  .next (s.store8 (.indirect b) (.reg r) |>.advance 3)

/-- `MOV r8,[r16+r16]`: Copy the second operand to the first (R147). -/
def execMovR8Pair (d : Reg8) (b x : Reg16) (s : State) : Host.Outcome State Fault Refusal :=
  .next (s.load8 d (.pair b x) |>.advance 4)

/-- `MOV [r16+r16],r8`: Copy the second operand to the first (R148). -/
def execMovPairR8 (b x : Reg16) (r : Reg8) (s : State) : Host.Outcome State Fault Refusal :=
  .next (s.store8 (.pair b x) (.reg r) |>.advance 4)

/-- `MOV [imm16],imm8`: Copy the second operand to the first (R149). -/
def execMovMemImm8 (a : Addr) (v : Byte) (s : State) : Host.Outcome State Fault Refusal :=
  .next (s.store8 (.direct a) (.imm v) |>.advance 4)

/-- `MOV [imm16],imm16`: Copy the second operand to the first (R150). -/
def execMovMemImm16 (a : Addr) (v : Word) (s : State) : Host.Outcome State Fault Refusal :=
  .next (s.store16 (.direct a) (.imm v) |>.advance 5)

/-! ### XCHG -/

/-- `XCHG r16,r16`: Exchange the two operands, both read before either is written (R151). -/
def execXchgR16R16 (d r : Reg16) (s : State) : Host.Outcome State Fault Refusal :=
  .next ((s.set16 d (s.get16 r)).set16 r (s.get16 d) |>.advance 3)

/-- `XCHG r8,r8`: Exchange the two operands, both read before either is written (R152). -/
def execXchgR8R8 (d r : Reg8) (s : State) : Host.Outcome State Fault Refusal :=
  .next ((s.set8 d (s.get8 r)).set8 r (s.get8 d) |>.advance 3)

end Sys2Proof.Machine
end

