-- ==== Sys2Proof/Machine/Logic.lean ====
section
/-! DEFINITION. AND, OR, XOR and NOT (42_logic.md R210 to R224): all four flags by `flags_logic_w`. -/

namespace Sys2Proof.Machine

/-! ### AND -/

/-- `AND r16,r16`: Bitwise AND (R211). -/
def execAndR16R16 (d r : Reg16) (s : State) : Host.Outcome State Fault Refusal :=
  .next (s.writeBack16 d (logicWith (s.get16 d &&& s.get16 r)) |>.advance 3)

/-- `AND r8,r8`: Bitwise AND (R212). -/
def execAndR8R8 (d r : Reg8) (s : State) : Host.Outcome State Fault Refusal :=
  .next (s.writeBack8 d (logicWith (s.get8 d &&& s.get8 r)) |>.advance 3)

/-- `AND r16,imm16`: Bitwise AND (R213). -/
def execAndR16Imm (d : Reg16) (v : Word) (s : State) : Host.Outcome State Fault Refusal :=
  .next (s.writeBack16 d (logicWith (s.get16 d &&& v)) |>.advance 4)

/-- `AND r8,imm8`: Bitwise AND (R214). -/
def execAndR8Imm (d : Reg8) (v : Byte) (s : State) : Host.Outcome State Fault Refusal :=
  .next (s.writeBack8 d (logicWith (s.get8 d &&& v)) |>.advance 3)

/-! ### OR -/

/-- `OR r16,r16`: Bitwise OR (R215). -/
def execOrR16R16 (d r : Reg16) (s : State) : Host.Outcome State Fault Refusal :=
  .next (s.writeBack16 d (logicWith (s.get16 d ||| s.get16 r)) |>.advance 3)

/-- `OR r8,r8`: Bitwise OR (R216). -/
def execOrR8R8 (d r : Reg8) (s : State) : Host.Outcome State Fault Refusal :=
  .next (s.writeBack8 d (logicWith (s.get8 d ||| s.get8 r)) |>.advance 3)

/-- `OR r16,imm16`: Bitwise OR (R217). -/
def execOrR16Imm (d : Reg16) (v : Word) (s : State) : Host.Outcome State Fault Refusal :=
  .next (s.writeBack16 d (logicWith (s.get16 d ||| v)) |>.advance 4)

/-- `OR r8,imm8`: Bitwise OR (R218). -/
def execOrR8Imm (d : Reg8) (v : Byte) (s : State) : Host.Outcome State Fault Refusal :=
  .next (s.writeBack8 d (logicWith (s.get8 d ||| v)) |>.advance 3)

/-! ### XOR -/

/-- `XOR r16,r16`: Bitwise exclusive OR (R219). -/
def execXorR16R16 (d r : Reg16) (s : State) : Host.Outcome State Fault Refusal :=
  .next (s.writeBack16 d (logicWith (s.get16 d ^^^ s.get16 r)) |>.advance 3)

/-- `XOR r8,r8`: Bitwise exclusive OR (R220). -/
def execXorR8R8 (d r : Reg8) (s : State) : Host.Outcome State Fault Refusal :=
  .next (s.writeBack8 d (logicWith (s.get8 d ^^^ s.get8 r)) |>.advance 3)

/-- `XOR r16,imm16`: Bitwise exclusive OR (R221). -/
def execXorR16Imm (d : Reg16) (v : Word) (s : State) : Host.Outcome State Fault Refusal :=
  .next (s.writeBack16 d (logicWith (s.get16 d ^^^ v)) |>.advance 4)

/-- `XOR r8,imm8`: Bitwise exclusive OR (R222). -/
def execXorR8Imm (d : Reg8) (v : Byte) (s : State) : Host.Outcome State Fault Refusal :=
  .next (s.writeBack8 d (logicWith (s.get8 d ^^^ v)) |>.advance 3)

/-! ### NOT -/

/-- `NOT r16`: Every bit inverted; the flags are written (R223). -/
def execNotR16 (d : Reg16) (s : State) : Host.Outcome State Fault Refusal :=
  .next (s.writeBack16 d (logicWith (~~~ s.get16 d)) |>.advance 2)

/-- `NOT r8`: Every bit inverted; the flags are written (R224). -/
def execNotR8 (d : Reg8) (s : State) : Host.Outcome State Fault Refusal :=
  .next (s.writeBack8 d (logicWith (~~~ s.get8 d)) |>.advance 2)

end Sys2Proof.Machine
end

