-- ==== Sys2Proof/Machine/ShiftRotate.lean ====
section
/-! DEFINITION. SHL, SHR, SAR, ROL, ROR, RCL and RCR (43_shift_rotate.md R240 to R277): the shared loop of
Flags.lean with the count from an immediate byte or from CL. -/

namespace Sys2Proof.Machine

/-! ### SHL -/

/-- `SHL r16,imm8`: Shift left (R250). -/
def execShlR16Imm (d : Reg16) (n : Byte) (s : State) : Host.Outcome State Fault Refusal :=
  .next (s.shift16 .shl d (.imm n) |>.advance 3)

/-- `SHL r16,CL`: Shift left (R251). -/
def execShlR16Cl (d : Reg16) (s : State) : Host.Outcome State Fault Refusal :=
  .next (s.shift16 .shl d .cl |>.advance 3)

/-- `SHL r8,imm8`: Shift left (R252). -/
def execShlR8Imm (d : Reg8) (n : Byte) (s : State) : Host.Outcome State Fault Refusal :=
  .next (s.shift8 .shl d (.imm n) |>.advance 3)

/-- `SHL r8,CL`: Shift left (R253). -/
def execShlR8Cl (d : Reg8) (s : State) : Host.Outcome State Fault Refusal :=
  .next (s.shift8 .shl d .cl |>.advance 3)

/-! ### SHR -/

/-- `SHR r16,imm8`: Logical shift right (R254). -/
def execShrR16Imm (d : Reg16) (n : Byte) (s : State) : Host.Outcome State Fault Refusal :=
  .next (s.shift16 .shr d (.imm n) |>.advance 3)

/-- `SHR r16,CL`: Logical shift right (R255). -/
def execShrR16Cl (d : Reg16) (s : State) : Host.Outcome State Fault Refusal :=
  .next (s.shift16 .shr d .cl |>.advance 3)

/-- `SHR r8,imm8`: Logical shift right (R256). -/
def execShrR8Imm (d : Reg8) (n : Byte) (s : State) : Host.Outcome State Fault Refusal :=
  .next (s.shift8 .shr d (.imm n) |>.advance 3)

/-- `SHR r8,CL`: Logical shift right (R257). -/
def execShrR8Cl (d : Reg8) (s : State) : Host.Outcome State Fault Refusal :=
  .next (s.shift8 .shr d .cl |>.advance 3)

/-! ### SAR -/

/-- `SAR r16,imm8`: Arithmetic shift right (R258). -/
def execSarR16Imm (d : Reg16) (n : Byte) (s : State) : Host.Outcome State Fault Refusal :=
  .next (s.shift16 .sar d (.imm n) |>.advance 3)

/-- `SAR r16,CL`: Arithmetic shift right (R259). -/
def execSarR16Cl (d : Reg16) (s : State) : Host.Outcome State Fault Refusal :=
  .next (s.shift16 .sar d .cl |>.advance 3)

/-- `SAR r8,imm8`: Arithmetic shift right (R260). -/
def execSarR8Imm (d : Reg8) (n : Byte) (s : State) : Host.Outcome State Fault Refusal :=
  .next (s.shift8 .sar d (.imm n) |>.advance 3)

/-- `SAR r8,CL`: Arithmetic shift right (R261). -/
def execSarR8Cl (d : Reg8) (s : State) : Host.Outcome State Fault Refusal :=
  .next (s.shift8 .sar d .cl |>.advance 3)

/-! ### ROL -/

/-- `ROL r16,imm8`: Rotate left (R262). -/
def execRolR16Imm (d : Reg16) (n : Byte) (s : State) : Host.Outcome State Fault Refusal :=
  .next (s.shift16 .rol d (.imm n) |>.advance 3)

/-- `ROL r16,CL`: Rotate left (R263). -/
def execRolR16Cl (d : Reg16) (s : State) : Host.Outcome State Fault Refusal :=
  .next (s.shift16 .rol d .cl |>.advance 3)

/-- `ROL r8,imm8`: Rotate left (R264). -/
def execRolR8Imm (d : Reg8) (n : Byte) (s : State) : Host.Outcome State Fault Refusal :=
  .next (s.shift8 .rol d (.imm n) |>.advance 3)

/-- `ROL r8,CL`: Rotate left (R265). -/
def execRolR8Cl (d : Reg8) (s : State) : Host.Outcome State Fault Refusal :=
  .next (s.shift8 .rol d .cl |>.advance 3)

/-! ### ROR -/

/-- `ROR r16,imm8`: Rotate right (R266). -/
def execRorR16Imm (d : Reg16) (n : Byte) (s : State) : Host.Outcome State Fault Refusal :=
  .next (s.shift16 .ror d (.imm n) |>.advance 3)

/-- `ROR r16,CL`: Rotate right (R267). -/
def execRorR16Cl (d : Reg16) (s : State) : Host.Outcome State Fault Refusal :=
  .next (s.shift16 .ror d .cl |>.advance 3)

/-- `ROR r8,imm8`: Rotate right (R268). -/
def execRorR8Imm (d : Reg8) (n : Byte) (s : State) : Host.Outcome State Fault Refusal :=
  .next (s.shift8 .ror d (.imm n) |>.advance 3)

/-- `ROR r8,CL`: Rotate right (R269). -/
def execRorR8Cl (d : Reg8) (s : State) : Host.Outcome State Fault Refusal :=
  .next (s.shift8 .ror d .cl |>.advance 3)

/-! ### RCL -/

/-- `RCL r16,imm8`: Rotate left through CF (R270). -/
def execRclR16Imm (d : Reg16) (n : Byte) (s : State) : Host.Outcome State Fault Refusal :=
  .next (s.shift16 .rcl d (.imm n) |>.advance 3)

/-- `RCL r16,CL`: Rotate left through CF (R271). -/
def execRclR16Cl (d : Reg16) (s : State) : Host.Outcome State Fault Refusal :=
  .next (s.shift16 .rcl d .cl |>.advance 3)

/-- `RCL r8,imm8`: Rotate left through CF (R272). -/
def execRclR8Imm (d : Reg8) (n : Byte) (s : State) : Host.Outcome State Fault Refusal :=
  .next (s.shift8 .rcl d (.imm n) |>.advance 3)

/-- `RCL r8,CL`: Rotate left through CF (R273). -/
def execRclR8Cl (d : Reg8) (s : State) : Host.Outcome State Fault Refusal :=
  .next (s.shift8 .rcl d .cl |>.advance 3)

/-! ### RCR -/

/-- `RCR r16,imm8`: Rotate right through CF (R274). -/
def execRcrR16Imm (d : Reg16) (n : Byte) (s : State) : Host.Outcome State Fault Refusal :=
  .next (s.shift16 .rcr d (.imm n) |>.advance 3)

/-- `RCR r16,CL`: Rotate right through CF (R275). -/
def execRcrR16Cl (d : Reg16) (s : State) : Host.Outcome State Fault Refusal :=
  .next (s.shift16 .rcr d .cl |>.advance 3)

/-- `RCR r8,imm8`: Rotate right through CF (R276). -/
def execRcrR8Imm (d : Reg8) (n : Byte) (s : State) : Host.Outcome State Fault Refusal :=
  .next (s.shift8 .rcr d (.imm n) |>.advance 3)

/-- `RCR r8,CL`: Rotate right through CF (R277). -/
def execRcrR8Cl (d : Reg8) (s : State) : Host.Outcome State Fault Refusal :=
  .next (s.shift8 .rcr d .cl |>.advance 3)

end Sys2Proof.Machine
end

