-- ==== Sys2Proof/Machine/System.lean ====
section
/-! DEFINITION. The one system instruction, HALT (45_system.md R320, R321). -/

namespace Sys2Proof.Machine

/-- `HALT`: RS becomes Halted and IP is left at the byte after it (R320; the advance is D13, UNVERIFIED,
notes/assumptions/8.md: unsafe). -/
def execHalt (s : State) : Host.Outcome State Fault Refusal :=
  .next ({ s with rs := .halted } |>.advance (if Config.haltAdvancesIp then 1 else 0))

end Sys2Proof.Machine
end

