-- ==== Sys2Proof/Machine/Dispatch.lean ====
section
/-! DEFINITION. The dispatch of an instruction to its meaning, one arm for each variant (30_encoding.md R74). -/

namespace Sys2Proof.Machine

def exec (i : Instr) (s : State) : Host.Outcome State Fault Refusal :=
  match i with
  | .halt => Sys2Proof.Machine.execHalt s
  | .ret => Sys2Proof.Machine.execRet s
  | .jmp target => Sys2Proof.Machine.execJmp target s
  | .call target => Sys2Proof.Machine.execCall target s
  | .jz target => Sys2Proof.Machine.execJz target s
  | .jnz target => Sys2Proof.Machine.execJnz target s
  | .jc target => Sys2Proof.Machine.execJc target s
  | .jnc target => Sys2Proof.Machine.execJnc target s
  | .js target => Sys2Proof.Machine.execJs target s
  | .jns target => Sys2Proof.Machine.execJns target s
  | .jo target => Sys2Proof.Machine.execJo target s
  | .jno target => Sys2Proof.Machine.execJno target s
  | .movR16R16 d r => Sys2Proof.Machine.execMovR16R16 d r s
  | .movR8R8 d r => Sys2Proof.Machine.execMovR8R8 d r s
  | .movR16Imm d v => Sys2Proof.Machine.execMovR16Imm d v s
  | .movR8Imm d v => Sys2Proof.Machine.execMovR8Imm d v s
  | .movR16Mem d a => Sys2Proof.Machine.execMovR16Mem d a s
  | .movMemR16 r a => Sys2Proof.Machine.execMovMemR16 r a s
  | .movR16Ind d b => Sys2Proof.Machine.execMovR16Ind d b s
  | .movIndR16 b r => Sys2Proof.Machine.execMovIndR16 b r s
  | .movR16Pair d b x => Sys2Proof.Machine.execMovR16Pair d b x s
  | .movPairR16 b x r => Sys2Proof.Machine.execMovPairR16 b x r s
  | .movR8Mem d a => Sys2Proof.Machine.execMovR8Mem d a s
  | .movMemR8 r a => Sys2Proof.Machine.execMovMemR8 r a s
  | .movR8Ind d b => Sys2Proof.Machine.execMovR8Ind d b s
  | .movIndR8 b r => Sys2Proof.Machine.execMovIndR8 b r s
  | .movR8Pair d b x => Sys2Proof.Machine.execMovR8Pair d b x s
  | .movPairR8 b x r => Sys2Proof.Machine.execMovPairR8 b x r s
  | .movMemImm8 a v => Sys2Proof.Machine.execMovMemImm8 a v s
  | .movMemImm16 a v => Sys2Proof.Machine.execMovMemImm16 a v s
  | .xchgR16R16 d r => Sys2Proof.Machine.execXchgR16R16 d r s
  | .xchgR8R8 d r => Sys2Proof.Machine.execXchgR8R8 d r s
  | .addR16R16 d r => Sys2Proof.Machine.execAddR16R16 d r s
  | .addR8R8 d r => Sys2Proof.Machine.execAddR8R8 d r s
  | .addR16Imm d v => Sys2Proof.Machine.execAddR16Imm d v s
  | .addR8Imm d v => Sys2Proof.Machine.execAddR8Imm d v s
  | .adcR16R16 d r => Sys2Proof.Machine.execAdcR16R16 d r s
  | .adcR8R8 d r => Sys2Proof.Machine.execAdcR8R8 d r s
  | .adcR16Imm d v => Sys2Proof.Machine.execAdcR16Imm d v s
  | .adcR8Imm d v => Sys2Proof.Machine.execAdcR8Imm d v s
  | .subR16R16 d r => Sys2Proof.Machine.execSubR16R16 d r s
  | .subR8R8 d r => Sys2Proof.Machine.execSubR8R8 d r s
  | .subR16Imm d v => Sys2Proof.Machine.execSubR16Imm d v s
  | .subR8Imm d v => Sys2Proof.Machine.execSubR8Imm d v s
  | .sbbR16R16 d r => Sys2Proof.Machine.execSbbR16R16 d r s
  | .sbbR8R8 d r => Sys2Proof.Machine.execSbbR8R8 d r s
  | .sbbR16Imm d v => Sys2Proof.Machine.execSbbR16Imm d v s
  | .sbbR8Imm d v => Sys2Proof.Machine.execSbbR8Imm d v s
  | .cmpR16R16 d r => Sys2Proof.Machine.execCmpR16R16 d r s
  | .cmpR8R8 d r => Sys2Proof.Machine.execCmpR8R8 d r s
  | .cmpR16Imm d v => Sys2Proof.Machine.execCmpR16Imm d v s
  | .cmpR8Imm d v => Sys2Proof.Machine.execCmpR8Imm d v s
  | .andR16R16 d r => Sys2Proof.Machine.execAndR16R16 d r s
  | .andR8R8 d r => Sys2Proof.Machine.execAndR8R8 d r s
  | .andR16Imm d v => Sys2Proof.Machine.execAndR16Imm d v s
  | .andR8Imm d v => Sys2Proof.Machine.execAndR8Imm d v s
  | .orR16R16 d r => Sys2Proof.Machine.execOrR16R16 d r s
  | .orR8R8 d r => Sys2Proof.Machine.execOrR8R8 d r s
  | .orR16Imm d v => Sys2Proof.Machine.execOrR16Imm d v s
  | .orR8Imm d v => Sys2Proof.Machine.execOrR8Imm d v s
  | .xorR16R16 d r => Sys2Proof.Machine.execXorR16R16 d r s
  | .xorR8R8 d r => Sys2Proof.Machine.execXorR8R8 d r s
  | .xorR16Imm d v => Sys2Proof.Machine.execXorR16Imm d v s
  | .xorR8Imm d v => Sys2Proof.Machine.execXorR8Imm d v s
  | .incR16 d => Sys2Proof.Machine.execIncR16 d s
  | .incR8 d => Sys2Proof.Machine.execIncR8 d s
  | .decR16 d => Sys2Proof.Machine.execDecR16 d s
  | .decR8 d => Sys2Proof.Machine.execDecR8 d s
  | .notR16 d => Sys2Proof.Machine.execNotR16 d s
  | .notR8 d => Sys2Proof.Machine.execNotR8 d s
  | .pushR16 r => Sys2Proof.Machine.execPushR16 r s
  | .popR16 d => Sys2Proof.Machine.execPopR16 d s
  | .shlR16Imm d n => Sys2Proof.Machine.execShlR16Imm d n s
  | .shlR16Cl d => Sys2Proof.Machine.execShlR16Cl d s
  | .shlR8Imm d n => Sys2Proof.Machine.execShlR8Imm d n s
  | .shlR8Cl d => Sys2Proof.Machine.execShlR8Cl d s
  | .shrR16Imm d n => Sys2Proof.Machine.execShrR16Imm d n s
  | .shrR16Cl d => Sys2Proof.Machine.execShrR16Cl d s
  | .shrR8Imm d n => Sys2Proof.Machine.execShrR8Imm d n s
  | .shrR8Cl d => Sys2Proof.Machine.execShrR8Cl d s
  | .sarR16Imm d n => Sys2Proof.Machine.execSarR16Imm d n s
  | .sarR16Cl d => Sys2Proof.Machine.execSarR16Cl d s
  | .sarR8Imm d n => Sys2Proof.Machine.execSarR8Imm d n s
  | .sarR8Cl d => Sys2Proof.Machine.execSarR8Cl d s
  | .rolR16Imm d n => Sys2Proof.Machine.execRolR16Imm d n s
  | .rolR16Cl d => Sys2Proof.Machine.execRolR16Cl d s
  | .rolR8Imm d n => Sys2Proof.Machine.execRolR8Imm d n s
  | .rolR8Cl d => Sys2Proof.Machine.execRolR8Cl d s
  | .rorR16Imm d n => Sys2Proof.Machine.execRorR16Imm d n s
  | .rorR16Cl d => Sys2Proof.Machine.execRorR16Cl d s
  | .rorR8Imm d n => Sys2Proof.Machine.execRorR8Imm d n s
  | .rorR8Cl d => Sys2Proof.Machine.execRorR8Cl d s
  | .rclR16Imm d n => Sys2Proof.Machine.execRclR16Imm d n s
  | .rclR16Cl d => Sys2Proof.Machine.execRclR16Cl d s
  | .rclR8Imm d n => Sys2Proof.Machine.execRclR8Imm d n s
  | .rclR8Cl d => Sys2Proof.Machine.execRclR8Cl d s
  | .rcrR16Imm d n => Sys2Proof.Machine.execRcrR16Imm d n s
  | .rcrR16Cl d => Sys2Proof.Machine.execRcrR16Cl d s
  | .rcrR8Imm d n => Sys2Proof.Machine.execRcrR8Imm d n s
  | .rcrR8Cl d => Sys2Proof.Machine.execRcrR8Cl d s

end Sys2Proof.Machine
end

