-- ==== Sys2Proof/Machine/Step.lean ====
section
/-! DEFINITION. One step (60_exceptions.md R347): fetch, decode, execute one instruction, or take a fault. -/

namespace Sys2Proof.Machine

/-- In `Running`: decode at IP; on a decode fault RS becomes Faulted and nothing else changes, else the one instruction
executes. In `Halted` and `Faulted` a step changes nothing (R347, D14, UNVERIFIED, notes/assumptions/9.md: unsafe). -/
def step (s : State) : Host.Outcome State Fault Refusal :=
  match s.rs with
  | .running =>
    match decodeFrom s.fetch8 with
    | .ok i => exec i s
    | .error e => .next (s.takeFault e)
  | .halted => .next s
  | .faulted _ => .next s

/-- `s` with an instruction of bits `w` stored where the next step fetches, at IP, and RS `Running`, without which a step
fetches nothing (notes/assumptions/2.md). -/
def State.withFetchWord (s : State) (nbits w : Nat) : State :=
  { s.storeBytes s.ip (tableBytes nbits w) with rs := .running }

end Sys2Proof.Machine
end

