-- ==== Sys2Proof/Machine/Assembler.lean ====
section
/-! DEFINITION. The text side of the encoder (30_encoding.md R90 to R106): the operand classifier, the line syntax, the
selection of a variant from a mnemonic and its operand classes, the bytes of a line, and the two-pass driver, which the spec
counts as software around the encoder (00_scope.md R3) and describes. Nothing here touches the state of the machine
(60_exceptions.md R352). -/

namespace Sys2Proof.Asm

/-- A text, as its characters. -/
abbrev Text := List Char

/-! ## Characters, names and numerals -/

/-- White space. The spec does not list the characters: DESIGN CHOICE, notes/assumptions/22.md: safe. -/
def isSpace (c : Char) : Bool := c == ' ' || c == '\t' || c == '\r' || c == '\n'

/-- The text without surrounding white space. -/
def strip (t : Text) : Text := ((t.dropWhile isSpace).reverse.dropWhile isSpace).reverse

/-- Register names and mnemonics are compared without regard to case (30_encoding.md R91, R94). -/
def upper (t : Text) : Text := t.map Char.toUpper

/-- The name of a 16-bit register (10_state.md R10; `EX` is D3, notes/assumptions/4.md). -/
def reg16Name : Reg16 → Text
  | .ax => ['A', 'X']
  | .bx => ['B', 'X']
  | .cx => ['C', 'X']
  | .dx => ['D', 'X']
  | .ex => Config.extraRegName
  | .sp => ['S', 'P']
  | .bp => ['B', 'P']
  | .si => ['S', 'I']
  | .di => ['D', 'I']

/-- The name of an 8-bit view (10_state.md R11). -/
def reg8Name : Reg8 → Text
  | .al => ['A', 'L']
  | .ah => ['A', 'H']
  | .bl => ['B', 'L']
  | .bh => ['B', 'H']
  | .cl => ['C', 'L']
  | .ch => ['C', 'H']
  | .dl => ['D', 'L']
  | .dh => ['D', 'H']
  | .el => Config.extraLowName
  | .eh => Config.extraHighName

def reg16OfName (t : Text) : Option Reg16 := Reg16.all.find? (fun r => reg16Name r == upper t)

def reg8OfName (t : Text) : Option Reg8 := Reg8.all.find? (fun r => reg8Name r == upper t)

/-- The value of a digit below `base`, 10 or 16; hexadecimal digits in either case (30_encoding.md R92). -/
def digitValue (base : Nat) (c : Char) : Option Nat :=
  let n := c.toNat
  let v :=
    if 48 ≤ n ∧ n ≤ 57 then n - 48
    else if 65 ≤ n ∧ n ≤ 70 then n - 55
    else if 97 ≤ n ∧ n ≤ 102 then n - 87
    else 16
  if v < base then some v else none

/-- The value of a text of digits, continuing the number `acc`. -/
def digitsFrom (base acc : Nat) : Text → Option Nat
  | [] => some acc
  | c :: cs =>
    match digitValue base c with
    | some v => digitsFrom base (acc * base + v) cs
    | none => none

/-- The value of one or more digits. -/
def digits (base : Nat) (t : Text) : Option Nat :=
  match t with
  | [] => none
  | _ :: _ => digitsFrom base 0 t

/-- Form (a) of 30_encoding.md R92: `0x` or `0X` and hexadecimal digits. -/
def hexPrefixed : Text → Option Nat
  | '0' :: 'x' :: t => digits 16 t
  | '0' :: 'X' :: t => digits 16 t
  | _ => none

/-- Form (b) of 30_encoding.md R92: hexadecimal digits and `h` or `H`. -/
def hexSuffixed (t : Text) : Option Nat :=
  match t.reverse with
  | 'h' :: u => digits 16 u.reverse
  | 'H' :: u => digits 16 u.reverse
  | _ => none

/-- A numeric literal: (a), then (b), then decimal digits (30_encoding.md R92, D25). -/
def literal (t : Text) : Option Nat :=
  (hexPrefixed t).or ((hexSuffixed t).or (digits 10 t))

/-! ## The operand classifier (30_encoding.md R90, R91) -/

/-- The seven classes and the failure class. -/
inductive OperandClass where
  | reg16 (r : Reg16)
  | reg8 (r : Reg8)
  | memReg (base : Reg16)
  | memDirect (addr : Addr)
  | memPair (base index : Reg16)
  | imm (value : Nat)
  | label (name : Text)
  /-- `None`: a text that is no operand. -/
  | noClass
deriving DecidableEq, Repr

/-- The text before the first `+` and the text after it. -/
def splitPlus : Text → Option (Text × Text)
  | [] => none
  | c :: cs => if c = '+' then some ([], cs) else (splitPlus cs).map fun p => (c :: p.1, p.2)

/-- Step 3c: both sides of the first `+` are 16-bit register names. -/
def classifyPair (inner : Text) : Option OperandClass :=
  match splitPlus inner with
  | none => none
  | some (l, r) =>
    match reg16OfName (strip l), reg16OfName (strip r) with
    | some b, some x => some (.memPair b x)
    | _, _ => none

/-- Steps 3a to 3e, on the text between the brackets, stripped. -/
def classifyInner (inner : Text) : OperandClass :=
  match reg16OfName inner with
  | some b => .memReg b
  | none =>
    match reg8OfName inner with
    | some _ => .noClass
    | none =>
      match classifyPair inner with
      | some c => c
      | none =>
        match literal inner with
        | some v => if v ≤ 0xFFFF then .memDirect (BitVec.ofNat 16 v) else .noClass
        | none => .noClass

/-- The classifier: the first test of 30_encoding.md R91 that succeeds decides. It is total and has no state. -/
def classify (text : Text) : OperandClass :=
  let t := strip text
  match reg16OfName t with
  | some r => .reg16 r
  | none =>
    match reg8OfName t with
    | some r => .reg8 r
    | none =>
      let opens := t.head? == some '['
      let closes := t.getLast? == some ']'
      if opens && closes then classifyInner (strip (t.tail.dropLast))
      else if opens || closes then .noClass
      else
        match literal t with
        | some v => .imm v
        | none => if t.isEmpty then .noClass else .label t

/-! ## Line syntax (30_encoding.md R93) -/

inductive Line where
  | blank
  | label (name : Text)
  | instr (mnemonic : Text) (operands : List Text)
deriving DecidableEq, Repr

/-- The texts between commas. -/
def splitComma : Text → List Text
  | [] => [[]]
  | c :: cs =>
    if c = ',' then [] :: splitComma cs
    else
      match splitComma cs with
      | [] => [[c]]
      | u :: us => (c :: u) :: us

/-- One source line: the comment dropped, then blank, a label definition, or a mnemonic with its operands. -/
def parseLine (text : Text) : Line :=
  let t := strip (text.takeWhile (fun c => c != ';'))
  if t.isEmpty then .blank
  else if t.getLast? == some ':' then .label (strip t.dropLast)
  else
    let rest := strip (t.dropWhile (fun c => !isSpace c))
    .instr (t.takeWhile (fun c => !isSpace c)) (if rest.isEmpty then [] else (splitComma rest).map strip)

/-! ## Mnemonics (30_encoding.md R94) -/

inductive Mnemonic where
  | halt | ret | jmp | call | jz | jnz | jc | jnc | js | jns | jo | jno | inc | dec | not | push
  | pop | shl | shr | sar | rol | ror | rcl | rcr | mov | add | sub | cmp | and | or | xor | adc
  | sbb | xchg
deriving DecidableEq, Repr

def Mnemonic.name : Mnemonic → Text
  | .halt => ['H', 'A', 'L', 'T']
  | .ret => ['R', 'E', 'T']
  | .jmp => ['J', 'M', 'P']
  | .call => ['C', 'A', 'L', 'L']
  | .jz => ['J', 'Z']
  | .jnz => ['J', 'N', 'Z']
  | .jc => ['J', 'C']
  | .jnc => ['J', 'N', 'C']
  | .js => ['J', 'S']
  | .jns => ['J', 'N', 'S']
  | .jo => ['J', 'O']
  | .jno => ['J', 'N', 'O']
  | .inc => ['I', 'N', 'C']
  | .dec => ['D', 'E', 'C']
  | .not => ['N', 'O', 'T']
  | .push => ['P', 'U', 'S', 'H']
  | .pop => ['P', 'O', 'P']
  | .shl => ['S', 'H', 'L']
  | .shr => ['S', 'H', 'R']
  | .sar => ['S', 'A', 'R']
  | .rol => ['R', 'O', 'L']
  | .ror => ['R', 'O', 'R']
  | .rcl => ['R', 'C', 'L']
  | .rcr => ['R', 'C', 'R']
  | .mov => ['M', 'O', 'V']
  | .add => ['A', 'D', 'D']
  | .sub => ['S', 'U', 'B']
  | .cmp => ['C', 'M', 'P']
  | .and => ['A', 'N', 'D']
  | .or => ['O', 'R']
  | .xor => ['X', 'O', 'R']
  | .adc => ['A', 'D', 'C']
  | .sbb => ['S', 'B', 'B']
  | .xchg => ['X', 'C', 'H', 'G']

def Mnemonic.all : List Mnemonic :=
  ([.halt, .ret, .jmp, .call, .jz, .jnz, .jc, .jnc, .js] : List Mnemonic)
  ++ ([.jns, .jo, .jno, .inc, .dec, .not, .push, .pop, .shl] : List Mnemonic)
  ++ ([.shr, .sar, .rol, .ror, .rcl, .rcr, .mov, .add, .sub] : List Mnemonic)
  ++ ([.cmp, .and, .or, .xor, .adc, .sbb, .xchg] : List Mnemonic)

def mnemonicOfName (t : Text) : Option Mnemonic := Mnemonic.all.find? (fun m => m.name == upper t)

/-! ## Variant selection (30_encoding.md R95 to R100) -/

/-- The encoder's errors (30_encoding.md R102, D25). Which of several is reported is a DESIGN CHOICE,
notes/assumptions/23.md: safe. -/
inductive AsmError where
  | unknownMnemonic
  /-- Wrong operand count, width or class for the mnemonic. -/
  | wrongOperands
  | undefinedLabel
  /-- An operand classified `None`. -/
  | malformedOperand
  /-- An immediate or a count that does not fit; it is never truncated. -/
  | valueTooLarge
  /-- A label defined twice (30_encoding.md R104). -/
  | duplicateLabel
deriving DecidableEq, Repr

/-- The label map: the address of a label, or none when it is not defined. -/
abbrev Labels := Text → Option Nat

/-- A branch or call: one label operand, which must be defined; the bytes hold bits 15 to 0 of its address (30_encoding.md
R96). An address above 0xFFFF is no error of the encoder's list (R102): DESIGN CHOICE, notes/assumptions/34.md: unsafe. -/
def selectBranch (labels : Labels) (mk : Addr → Instr) : List OperandClass → Except AsmError Instr
  | [.label t] =>
    match labels t with
    | none => .error .undefinedLabel
    | some a => .ok (mk (BitVec.ofNat 16 a))
  | _ => .error .wrongOperands

/-- INC, DEC, NOT: one register of either width (30_encoding.md R97). -/
def selectUnary (mk16 : Reg16 → Instr) (mk8 : Reg8 → Instr) : List OperandClass → Except AsmError Instr
  | [.reg16 d] => .ok (mk16 d)
  | [.reg8 d] => .ok (mk8 d)
  | _ => .error .wrongOperands

/-- PUSH, POP: one 16-bit register (30_encoding.md R97). -/
def selectStack (mk : Reg16 → Instr) : List OperandClass → Except AsmError Instr
  | [.reg16 d] => .ok (mk d)
  | _ => .error .wrongOperands

/-- A shift or rotate: a register, then an immediate of at most 255 or CL (30_encoding.md R98). -/
def selectShift (r16imm : Reg16 → Byte → Instr) (r16cl : Reg16 → Instr) (r8imm : Reg8 → Byte → Instr) (r8cl : Reg8 → Instr) :
    List OperandClass → Except AsmError Instr
  | [.reg16 d, .imm n] => if n ≤ 0xFF then .ok (r16imm d (BitVec.ofNat 8 n)) else .error .valueTooLarge
  | [.reg16 d, .reg8 .cl] => .ok (r16cl d)
  | [.reg8 d, .imm n] => if n ≤ 0xFF then .ok (r8imm d (BitVec.ofNat 8 n)) else .error .valueTooLarge
  | [.reg8 d, .reg8 .cl] => .ok (r8cl d)
  | _ => .error .wrongOperands

/-- The four register forms of ADD, ADC, SUB, SBB, CMP, AND, OR and XOR (30_encoding.md R99, R100). -/
def selectAlu (r16r16 : Reg16 → Reg16 → Instr) (r8r8 : Reg8 → Reg8 → Instr) (r16imm : Reg16 → Word → Instr)
    (r8imm : Reg8 → Byte → Instr) : List OperandClass → Except AsmError Instr
  | [.reg16 d, .reg16 r] => .ok (r16r16 d r)
  | [.reg8 d, .reg8 r] => .ok (r8r8 d r)
  | [.reg16 d, .imm n] => if n ≤ 0xFFFF then .ok (r16imm d (BitVec.ofNat 16 n)) else .error .valueTooLarge
  | [.reg8 d, .imm n] => if n ≤ 0xFF then .ok (r8imm d (BitVec.ofNat 8 n)) else .error .valueTooLarge
  | _ => .error .wrongOperands

/-- The two forms of XCHG (30_encoding.md R100). -/
def selectXchg : List OperandClass → Except AsmError Instr
  | [.reg16 d, .reg16 r] => .ok (.xchgR16R16 d r)
  | [.reg8 d, .reg8 r] => .ok (.xchgR8R8 d r)
  | _ => .error .wrongOperands

/-- MOV with a 16-bit register as first operand (30_encoding.md R99). -/
def selectMovToReg16 (d : Reg16) : OperandClass → Except AsmError Instr
  | .reg16 r => .ok (.movR16R16 d r)
  | .imm n => if n ≤ 0xFFFF then .ok (.movR16Imm d (BitVec.ofNat 16 n)) else .error .valueTooLarge
  | .memDirect a => .ok (.movR16Mem d a)
  | .memReg b => .ok (.movR16Ind d b)
  | .memPair b x => .ok (.movR16Pair d b x)
  | _ => .error .wrongOperands

/-- MOV with an 8-bit view as first operand (30_encoding.md R99). -/
def selectMovToReg8 (d : Reg8) : OperandClass → Except AsmError Instr
  | .reg8 r => .ok (.movR8R8 d r)
  | .imm n => if n ≤ 0xFF then .ok (.movR8Imm d (BitVec.ofNat 8 n)) else .error .valueTooLarge
  | .memDirect a => .ok (.movR8Mem d a)
  | .memReg b => .ok (.movR8Ind d b)
  | .memPair b x => .ok (.movR8Pair d b x)
  | _ => .error .wrongOperands

/-- MOV with a direct address as first operand: an immediate takes the byte form when it is at most 0xFF, else the word
form (30_encoding.md R99). -/
def selectMovToDirect (a : Addr) : OperandClass → Except AsmError Instr
  | .reg16 r => .ok (.movMemR16 r a)
  | .reg8 r => .ok (.movMemR8 r a)
  | .imm n =>
    if n ≤ 0xFF then .ok (.movMemImm8 a (BitVec.ofNat 8 n))
    else if n ≤ 0xFFFF then .ok (.movMemImm16 a (BitVec.ofNat 16 n))
    else .error .valueTooLarge
  | _ => .error .wrongOperands

/-- The 18 forms of MOV (30_encoding.md R99). -/
def selectMov : List OperandClass → Except AsmError Instr
  | [.reg16 d, src] => selectMovToReg16 d src
  | [.reg8 d, src] => selectMovToReg8 d src
  | [.memDirect a, src] => selectMovToDirect a src
  | [.memReg b, .reg16 r] => .ok (.movIndR16 b r)
  | [.memReg b, .reg8 r] => .ok (.movIndR8 b r)
  | [.memPair b x, .reg16 r] => .ok (.movPairR16 b x r)
  | [.memPair b x, .reg8 r] => .ok (.movPairR8 b x r)
  | _ => .error .wrongOperands

/-- HALT, RET: no operand (30_encoding.md R95). -/
def selectNone (i : Instr) : List OperandClass → Except AsmError Instr
  | [] => .ok i
  | _ => .error .wrongOperands

/-- The instruction of a mnemonic with operands of these classes, none of them `None`. -/
def selectForm (labels : Labels) (m : Mnemonic) (ops : List OperandClass) : Except AsmError Instr :=
  match m with
  | .halt => selectNone .halt ops
  | .ret => selectNone .ret ops
  | .jmp => selectBranch labels .jmp ops
  | .call => selectBranch labels .call ops
  | .jz => selectBranch labels .jz ops
  | .jnz => selectBranch labels .jnz ops
  | .jc => selectBranch labels .jc ops
  | .jnc => selectBranch labels .jnc ops
  | .js => selectBranch labels .js ops
  | .jns => selectBranch labels .jns ops
  | .jo => selectBranch labels .jo ops
  | .jno => selectBranch labels .jno ops
  | .inc => selectUnary .incR16 .incR8 ops
  | .dec => selectUnary .decR16 .decR8 ops
  | .not => selectUnary .notR16 .notR8 ops
  | .push => selectStack .pushR16 ops
  | .pop => selectStack .popR16 ops
  | .shl => selectShift .shlR16Imm .shlR16Cl .shlR8Imm .shlR8Cl ops
  | .shr => selectShift .shrR16Imm .shrR16Cl .shrR8Imm .shrR8Cl ops
  | .sar => selectShift .sarR16Imm .sarR16Cl .sarR8Imm .sarR8Cl ops
  | .rol => selectShift .rolR16Imm .rolR16Cl .rolR8Imm .rolR8Cl ops
  | .ror => selectShift .rorR16Imm .rorR16Cl .rorR8Imm .rorR8Cl ops
  | .rcl => selectShift .rclR16Imm .rclR16Cl .rclR8Imm .rclR8Cl ops
  | .rcr => selectShift .rcrR16Imm .rcrR16Cl .rcrR8Imm .rcrR8Cl ops
  | .mov => selectMov ops
  | .xchg => selectXchg ops
  | .add => selectAlu .addR16R16 .addR8R8 .addR16Imm .addR8Imm ops
  | .sub => selectAlu .subR16R16 .subR8R8 .subR16Imm .subR8Imm ops
  | .cmp => selectAlu .cmpR16R16 .cmpR8R8 .cmpR16Imm .cmpR8Imm ops
  | .and => selectAlu .andR16R16 .andR8R8 .andR16Imm .andR8Imm ops
  | .or => selectAlu .orR16R16 .orR8R8 .orR16Imm .orR8Imm ops
  | .xor => selectAlu .xorR16R16 .xorR8R8 .xorR16Imm .xorR8Imm ops
  | .adc => selectAlu .adcR16R16 .adcR8R8 .adcR16Imm .adcR8Imm ops
  | .sbb => selectAlu .sbbR16R16 .sbbR8R8 .sbbR16Imm .sbbR8Imm ops

/-- The encoder's choice of an instruction (30_encoding.md R94 to R102). -/
def select (labels : Labels) (mnemonic : Text) (operands : List Text) : Except AsmError Instr :=
  match mnemonicOfName mnemonic with
  | none => .error .unknownMnemonic
  | some m =>
    let ops := operands.map classify
    if ops.contains .noClass then .error .malformedOperand else selectForm labels m ops

/-- The bytes of one instruction line (30_encoding.md R101). -/
def encodeLine (labels : Labels) (mnemonic : Text) (operands : List Text) : Except AsmError (List Byte) :=
  match select labels mnemonic operands with
  | .ok i => .ok (encode i)
  | .error e => .error e

/-! ## The two-pass driver (30_encoding.md R104, R105) -/

/-- The length pass 1 assumes for an instruction line: it depends on the mnemonic and the operand classes and on no label's
value, so every label is taken as defined; for a line no variant fits it is the free value (R104, U15,
notes/assumptions/25.md). -/
def pass1Length (number : Nat) (mnemonic : Text) (operands : List Text) : Nat :=
  match select (fun _ => some 0) mnemonic operands with
  | .ok i => i.variant.length
  | .error _ => Config.rejectedLineLength number

/-- Pass 1, from line `number` and running address `address`: the label table (R104). -/
def labelTable (number address : Nat) : List Text → List (Text × Nat)
  | [] => []
  | l :: ls =>
    match parseLine l with
    | .blank => labelTable (number + 1) address ls
    | .label name => (name, address) :: labelTable (number + 1) address ls
    | .instr m ops => labelTable (number + 1) (address + pass1Length number m ops) ls

/-- The label map of a table. -/
def lookup (table : List (Text × Nat)) : Labels := fun name =>
  (table.find? (fun p => p.1 == name)).map Prod.snd

/-- Pass 2, from line `number`, with the labels already defined: the bytes, or the first error with its 1-based line
number (R102, R105). A second definition of a label is refused at its line (R104, notes/assumptions/24.md). -/
def pass2 (labels : Labels) (number : Nat) (defined : List Text) : List Text → Except (AsmError × Nat) (List Byte)
  | [] => .ok []
  | l :: ls =>
    match parseLine l with
    | .blank => pass2 labels (number + 1) defined ls
    | .label name =>
      if defined.contains name then .error (.duplicateLabel, number)
      else pass2 labels (number + 1) (name :: defined) ls
    | .instr m ops =>
      match encodeLine labels m ops with
      | .error e => .error (e, number)
      | .ok bytes =>
        match pass2 labels (number + 1) defined ls with
        | .error e => .error e
        | .ok rest => .ok (bytes ++ rest)

/-- The assembly of a program, a list of lines, at address 0 (R105). -/
def assemble (lines : List Text) : Except (AsmError × Nat) (List Byte) :=
  pass2 (lookup (labelTable 1 0 lines)) 1 [] lines

/-- What an assembly returns: on an error no bytes, and the error with its line (R102, R105). -/
structure AsmResult where
  bytes : List Byte
  error : Option (AsmError × Nat)
deriving DecidableEq, Repr

def assembleResult (lines : List Text) : AsmResult :=
  match assemble lines with
  | .ok bytes => ⟨bytes, none⟩
  | .error e => ⟨[], some e⟩

/-- The lines of a source text. -/
def splitLines : Text → List Text
  | [] => [[]]
  | c :: cs =>
    if c = '\n' then [] :: splitLines cs
    else
      match splitLines cs with
      | [] => [[c]]
      | u :: us => (c :: u) :: us

end Sys2Proof.Asm
end

