-- ==== Sys2Proof/Machine/HostInterface.lean ====
section
/-! DEFINITION. The host interface (60_exceptions.md R345 to R351, D26): reset, load, step, run, observe, and the report of
a step. The host acts only between steps and has no other operation (R350). -/

namespace Sys2Proof.Machine

/-- `load(image)`: bytes 0 to n-1 of memory become the image, nothing else changes; an image longer than memory is refused
(none) with no effect (R346; the refusal is D26, UNVERIFIED, notes/assumptions/20.md). -/
def State.load (s : State) (image : List Byte) : Option State :=
  if image.length ≤ Config.maxImage then some (s.storeBytes 0 image) else none

/-- `run`, with the caller's bound on the number of steps: `while RS == Running: step` (R348, U9; no time-out is part of
the machine). -/
def runFor : Nat → State → Host.Outcome State Fault Refusal
  | 0, s => .next s
  | n + 1, s =>
    match s.rs with
    | .running =>
      match step s with
      | .next t => runFor n t
      | .fault r => .fault r
      | .refused r => .refused r
    | .halted => .next s
    | .faulted _ => .next s

/-- What a step reports: "halt/continue/error" (R351). -/
inductive Report where
  | mayContinue
  | halt
  | error (reason : FaultReason)
deriving DecidableEq, Repr

/-- The report is a function of RS after the step (R351). -/
def RunState.report : RunState → Report
  | .running => .mayContinue
  | .halted => .halt
  | .faulted reason => .error reason

/-- The four operations by which the host changes the machine (R345 to R348, R350). -/
inductive HostOp where
  | reset
  | load (image : List Byte)
  | step
  /-- `run`, observed after at most this many steps. -/
  | run (bound : Nat)
deriving DecidableEq, Repr

/-- One host operation; a refused load changes nothing (R346). -/
def State.apply (s : State) : HostOp → Host.Outcome State Fault Refusal
  | .reset => .next State.reset
  | .load image => .next ((s.load image).getD s)
  | .step => Sys2Proof.Machine.step s
  | .run bound => runFor bound s

/-- What the host may read between steps (R349, 10_state.md R29). -/
inductive Query where
  | register (r : Reg16)
  | view (r : Reg8)
  | ip
  | flags
  | memory (a : Addr)
  | runState
deriving DecidableEq, Repr

inductive Answer where
  | word (v : Word)
  | byte (v : Byte)
  | flags (f : Flags)
  | runState (rs : RunState)
deriving DecidableEq, Repr

/-- `observe`: a read without side effect (R349). -/
def State.observe (s : State) : Query → Answer
  | .register r => .word (s.get16 r)
  | .view r => .byte (s.get8 r)
  | .ip => .word s.ip
  | .flags => .flags s.flags
  | .memory a => .byte (s.mem8 a)
  | .runState => .runState s.rs

end Sys2Proof.Machine
end

