-- ==== Sys2Proof/Safety.lean ====
section
/-! DEFINITION. The terms the claims are stated in: what a step leaves as it was, what a result must be (written without
the flag unit and the loops of Flags.lean, as a reference they are compared with), the invariant every step keeps, and
what it means that bytes stand at the instruction pointer. -/

namespace Sys2Proof.Machine

/-! ## Frames -/

/-- `t` is `s` but for register `d`, which holds `v`, IP, which moved past `len` bytes, and perhaps the flags. -/
structure Wrote16 (s t : State) (d : Reg16) (v : Word) (len : Nat) : Prop where
  dest : t.get16 d = v
  others : ∀ r, r ≠ d → t.get16 r = s.get16 r
  mem : ∀ a, t.mem8 a = s.mem8 a
  ip : t.ip = s.ip + BitVec.ofNat 16 len
  rs : t.rs = s.rs

/-- `t` is `s` but for the view `d`, which holds `v` (the other view of its parent and every other register are as
before), IP, which moved past `len` bytes, and perhaps the flags. -/
structure Wrote8 (s t : State) (d : Reg8) (v : Byte) (len : Nat) : Prop where
  dest : t.get8 d = v
  otherViews : ∀ r, r ≠ d → t.get8 r = s.get8 r
  others : ∀ r, r ≠ parentOf d → t.get16 r = s.get16 r
  mem : ∀ a, t.mem8 a = s.mem8 a
  ip : t.ip = s.ip + BitVec.ofNat 16 len
  rs : t.rs = s.rs

/-- `Wrote16` of the value, and the flags are those given. -/
def Result16 (s t : State) (d : Reg16) (r : Word × Flags) (len : Nat) : Prop :=
  Wrote16 s t d r.1 len ∧ t.flags = r.2

/-- `Wrote8` of the value, and the flags are those given. -/
def Result8 (s t : State) (d : Reg8) (r : Byte × Flags) (len : Nat) : Prop :=
  Wrote8 s t d r.1 len ∧ t.flags = r.2

/-- `t` is `s` but for the flags, which are `f`, and IP, which moved past `len` bytes. -/
structure OnlyFlags (s t : State) (f : Flags) (len : Nat) : Prop where
  flags : t.flags = f
  regs : ∀ r, t.get16 r = s.get16 r
  mem : ∀ a, t.mem8 a = s.mem8 a
  ip : t.ip = s.ip + BitVec.ofNat 16 len
  rs : t.rs = s.rs

/-- `t` is `s` but for IP, which is `target`. -/
structure OnlyIp (s t : State) (target : Addr) : Prop where
  ip : t.ip = target
  regs : ∀ r, t.get16 r = s.get16 r
  flags : t.flags = s.flags
  mem : ∀ a, t.mem8 a = s.mem8 a
  rs : t.rs = s.rs

/-- `t` is `s` but for the byte at `a`, which is `v`, and IP, which moved past `len` bytes. -/
structure Stored8 (s t : State) (a : Addr) (v : Byte) (len : Nat) : Prop where
  stored : t.mem8 a = v
  mem : ∀ b, b ≠ a → t.mem8 b = s.mem8 b
  regs : ∀ r, t.get16 r = s.get16 r
  flags : t.flags = s.flags
  ip : t.ip = s.ip + BitVec.ofNat 16 len
  rs : t.rs = s.rs

/-- `t` is `s` but for the two bytes from `a` up (`a` and `a + 1` modulo 65,536), which hold `v`, low byte first, and IP,
which moved past `len` bytes. -/
structure Stored16 (s t : State) (a : Addr) (v : Word) (len : Nat) : Prop where
  low : t.mem8 a = BitVec.ofNat 8 v.toNat
  high : t.mem8 (a + 1) = BitVec.ofNat 8 (v.toNat / 256)
  mem : ∀ b, b ≠ a → b ≠ a + 1 → t.mem8 b = s.mem8 b
  regs : ∀ r, t.get16 r = s.get16 r
  flags : t.flags = s.flags
  ip : t.ip = s.ip + BitVec.ofNat 16 len
  rs : t.rs = s.rs

/-! ## The flag unit as the instructions use it (41_arithmetic.md R161, R162) -/

/-- `flags_add_w` of two operands, with `result = dest + src`. -/
def flagsOfSum {w : Nat} (x y : BitVec w) : Flags := flagsAdd w x.toNat y.toNat (x.toNat + y.toNat)

/-- `flags_sub_w` of two operands, with `result = dest - src`. -/
def flagsOfDifference {w : Nat} (x y : BitVec w) : Flags := flagsSub w x.toNat y.toNat (x.toNat - y.toNat)

/-- `src` is the source `y` with the carry `c` folded in, on unbounded integers or truncated to the width: 41_arithmetic.md
R161 and R162 do not say which. -/
def Folded {w : Nat} (y : BitVec w) (c : Bool) (src : Int) : Prop :=
  src = (y.toNat + c.toNat : Int) ∨ src = (y.toNat + c.toNat : Int) % 2 ^ w

/-- `f` is `flags_add_w` of `x` and of `y` with the carry folded in. -/
def FlagsOfFoldedSum {w : Nat} (x y : BitVec w) (c : Bool) (f : Flags) : Prop :=
  ∃ src, Folded y c src ∧ f = flagsAdd w x.toNat src (x.toNat + src)

/-- `f` is `flags_sub_w` of `x` and of `y` with the carry folded in. -/
def FlagsOfFoldedDifference {w : Nat} (x y : BitVec w) (c : Bool) (f : Flags) : Prop :=
  ∃ src, Folded y c src ∧ f = flagsSub w x.toNat src (x.toNat - src)

/-! ## The opcode map, row by row -/

/-- The variants of the opcodes 0x10 to 0x19, in the order of the map (30_encoding.md R85). -/
def jumpVariants : List Variant :=
  [.jmp, .call, .jz, .jnz, .jc, .jnc, .js, .jns, .jo, .jno]

/-- The variants of the opcodes 0x20 to 0x33, in the order of the map. -/
def moveVariants : List Variant :=
  [.movR16R16, .movR8R8, .movR16Imm, .movR8Imm, .movR16Mem, .movMemR16, .movR16Ind, .movIndR16, .movR16Pair,
   .movPairR16, .movR8Mem, .movMemR8, .movR8Ind, .movIndR8, .movR8Pair, .movPairR8, .movMemImm8, .movMemImm16,
   .xchgR16R16, .xchgR8R8]

/-- The variants of the opcodes `0x40 + 4*k + f`: the row is the operation k, the place in it the form f (30_encoding.md R85). -/
def aluVariants : List (List Variant) :=
  [[.addR16R16, .addR8R8, .addR16Imm, .addR8Imm],
   [.adcR16R16, .adcR8R8, .adcR16Imm, .adcR8Imm],
   [.subR16R16, .subR8R8, .subR16Imm, .subR8Imm],
   [.sbbR16R16, .sbbR8R8, .sbbR16Imm, .sbbR8Imm],
   [.cmpR16R16, .cmpR8R8, .cmpR16Imm, .cmpR8Imm],
   [.andR16R16, .andR8R8, .andR16Imm, .andR8Imm],
   [.orR16R16, .orR8R8, .orR16Imm, .orR8Imm],
   [.xorR16R16, .xorR8R8, .xorR16Imm, .xorR8Imm]]

/-- The variants of the opcodes 0x60 to 0x67, in the order of the map. -/
def unaryVariants : List Variant :=
  [.incR16, .incR8, .decR16, .decR8, .notR16, .notR8, .pushR16, .popR16]

/-- The variants of the opcodes `0x80 + 4*k + f`: the row is the operation k, the place in it the form f (30_encoding.md R85). -/
def shiftVariants : List (List Variant) :=
  [[.shlR16Imm, .shlR16Cl, .shlR8Imm, .shlR8Cl],
   [.shrR16Imm, .shrR16Cl, .shrR8Imm, .shrR8Cl],
   [.sarR16Imm, .sarR16Cl, .sarR8Imm, .sarR8Cl],
   [.rolR16Imm, .rolR16Cl, .rolR8Imm, .rolR8Cl],
   [.rorR16Imm, .rorR16Cl, .rorR8Imm, .rorR8Cl],
   [.rclR16Imm, .rclR16Cl, .rclR8Imm, .rclR8Cl],
   [.rcrR16Imm, .rcrR16Cl, .rcrR8Imm, .rcrR8Cl]]

/-! ## Reference results

Each is a closed form: a sum of `BitVec`s, a comparison of numbers, a shift or a rotation by the whole count. -/

/-- `v` is the value of some `w`-bit two's-complement number. -/
def fitsSigned (w : Nat) (v : Int) : Bool := decide (-2 ^ (w - 1) ≤ v) && decide (v < 2 ^ (w - 1))

/-- ADD: CF is unsigned overflow, OF signed overflow of `x + y`. -/
def addRef {w : Nat} (x y : BitVec w) : BitVec w × Flags :=
  (x + y,
    { cf := decide (2 ^ w ≤ x.toNat + y.toNat)
      zf := x + y == 0#w
      sf := (x + y).msb
      of := !fitsSigned w (x.toInt + y.toInt) })

/-- SUB and CMP: CF is the borrow, OF signed overflow of `x - y`. -/
def subRef {w : Nat} (x y : BitVec w) : BitVec w × Flags :=
  (x - y,
    { cf := decide (x.toNat < y.toNat)
      zf := x == y
      sf := (x - y).msb
      of := !fitsSigned w (x.toInt - y.toInt) })

/-- The one operand for which the carry fold turns the Overflow rule round: `2^(w-1) - 1` with CF set (41_arithmetic.md
R166, case (c)). -/
def foldTurns {w : Nat} (y : BitVec w) (c : Bool) : Bool := c && (y.toNat == 2 ^ (w - 1) - 1)

/-- ADC: as ADD of three numbers, but OF is the inverse of signed overflow where `foldTurns`. -/
def adcRef {w : Nat} (x y : BitVec w) (c : Bool) : BitVec w × Flags :=
  let r := x + y + bitW w c
  (r,
    { cf := decide (2 ^ w ≤ x.toNat + y.toNat + c.toNat)
      zf := r == 0#w
      sf := r.msb
      of := !fitsSigned w (x.toInt + y.toInt + c.toInt) ^^ foldTurns y c })

/-- SBB: as SUB of three numbers, but OF is the inverse of signed overflow where `foldTurns`. -/
def sbbRef {w : Nat} (x y : BitVec w) (c : Bool) : BitVec w × Flags :=
  let r := x - y - bitW w c
  (r,
    { cf := decide (x.toNat < y.toNat + c.toNat)
      zf := r == 0#w
      sf := r.msb
      of := !fitsSigned w (x.toInt - y.toInt - c.toInt) ^^ foldTurns y c })

/-- INC: OF is signed overflow of `x + 1`; CF is kept. -/
def incRef {w : Nat} (x : BitVec w) (old : Flags) : BitVec w × Flags :=
  (x + 1#w, { cf := old.cf, zf := x + 1#w == 0#w, sf := (x + 1#w).msb, of := !fitsSigned w (x.toInt + 1) })

/-- DEC: OF is signed overflow of `x - 1`; CF is kept. -/
def decRef {w : Nat} (x : BitVec w) (old : Flags) : BitVec w × Flags :=
  (x - 1#w, { cf := old.cf, zf := x == 1#w, sf := (x - 1#w).msb, of := !fitsSigned w (x.toInt - 1) })

/-- AND, OR, XOR, NOT with the result `r`. -/
def logicRef {w : Nat} (r : BitVec w) : BitVec w × Flags := (r, { cf := false, zf := r == 0#w, sf := r.msb, of := false })

/-- SHL by `n`: CF is the bit that left last. -/
def shlRef {w : Nat} (n : Nat) (x : BitVec w) (old : Flags) : BitVec w × Flags :=
  if n = 0 then (x, old)
  else
    let r := x <<< n
    let cf := decide (n ≤ w) && x.getLsbD (w - n)
    (r, { cf := cf, zf := r == 0#w, sf := r.msb, of := if n = 1 then r.msb ^^ cf else old.of })

/-- SHR by `n`: CF is the bit that left last, OF (for a count of 1) the top bit before. -/
def shrRef {w : Nat} (n : Nat) (x : BitVec w) (old : Flags) : BitVec w × Flags :=
  if n = 0 then (x, old)
  else
    let r := x >>> n
    (r, { cf := x.getLsbD (n - 1), zf := r == 0#w, sf := r.msb, of := if n = 1 then x.msb else old.of })

/-- SAR by `n`: the signed value divided by `2^n`, rounded down; from a count of `w` up CF is the sign. -/
def sarRef {w : Nat} (n : Nat) (x : BitVec w) (old : Flags) : BitVec w × Flags :=
  if n = 0 then (x, old)
  else
    let r := x.sshiftRight n
    (r, { cf := if n ≤ w then x.getLsbD (n - 1) else x.msb, zf := r == 0#w, sf := r.msb, of := false })

/-- When a rotate writes OF (43_shift_rotate.md R249): count 1, or, from CL, count 1 modulo the width. -/
def rotateWritesOf (byCl : Bool) (w n : Nat) : Bool := if byCl then n % w == 1 else n == 1

/-- ROL by `n`: a rotation of the `w` bits; CF is bit 0 of the result; ZF and SF are kept. -/
def rolRef {w : Nat} (byCl : Bool) (n : Nat) (x : BitVec w) (old : Flags) : BitVec w × Flags :=
  if n = 0 then (x, old)
  else
    let r := x.rotateLeft n
    (r, { old with cf := r.getLsbD 0, of := if rotateWritesOf byCl w n then r.msb ^^ r.getLsbD 0 else old.of })

/-- ROR by `n`: a rotation of the `w` bits; CF is the top bit of the result; ZF and SF are kept. -/
def rorRef {w : Nat} (byCl : Bool) (n : Nat) (x : BitVec w) (old : Flags) : BitVec w × Flags :=
  if n = 0 then (x, old)
  else
    let r := x.rotateRight n
    (r, { old with cf := r.msb, of := if rotateWritesOf byCl w n then r.msb ^^ r.getLsbD (w - 2) else old.of })

/-- The ring of `w + 1` bits that RCL and RCR turn: CF above the register (43_shift_rotate.md R247). -/
def carryRing {w : Nat} (cf : Bool) (x : BitVec w) : BitVec (w + 1) := BitVec.cons cf x

/-- RCL by `n`: the ring of CF and the register turned left by `n`; ZF and SF are kept. -/
def rclRef {w : Nat} (byCl : Bool) (n : Nat) (x : BitVec w) (old : Flags) : BitVec w × Flags :=
  if n = 0 then (x, old)
  else
    let ring := (carryRing old.cf x).rotateLeft n
    let r := ring.setWidth w
    (r, { old with cf := ring.msb, of := if rotateWritesOf byCl w n then r.msb ^^ ring.msb else old.of })

/-- RCR by `n`: the ring of CF and the register turned right by `n`; ZF and SF are kept. -/
def rcrRef {w : Nat} (byCl : Bool) (n : Nat) (x : BitVec w) (old : Flags) : BitVec w × Flags :=
  if n = 0 then (x, old)
  else
    let ring := (carryRing old.cf x).rotateRight n
    let r := ring.setWidth w
    (r, { old with cf := ring.msb, of := if rotateWritesOf byCl w n then r.msb ^^ r.getLsbD (w - 2) else old.of })

/-! ## Bytes at the instruction pointer -/

/-- The bytes `bs` stand at IP, in ascending addresses modulo 65,536. -/
def BytesAtIp (s : State) (bs : List Byte) : Prop := ∀ k (h : k < bs.length), s.fetch8 k = bs[k]

/-- The bytes that follow the opcode of variant `v`, as the next step fetches them. -/
def operandBytes (f : FetchFn) (v : Variant) : List Byte := (List.range v.layout.length).map (fun k => f (k + 1))

/-! ## The flags an instruction may write (the table of 10_state.md R19) -/

/-- The four flags, by name. -/
inductive Flag where
  | carry | zero | sign | overflow
deriving DecidableEq, Repr

def Flags.get (f : Flags) : Flag → Bool
  | .carry => f.cf
  | .zero => f.zf
  | .sign => f.sf
  | .overflow => f.of

/-- The rows of the table of 10_state.md R19: which flags an instruction of this mnemonic may write. -/
def mayWriteFlags : Variant → List Flag
  | .addR16R16 | .addR8R8 | .addR16Imm | .addR8Imm | .adcR16R16 | .adcR8R8 | .adcR16Imm | .adcR8Imm
  | .subR16R16 | .subR8R8 | .subR16Imm | .subR8Imm | .sbbR16R16 | .sbbR8R8 | .sbbR16Imm | .sbbR8Imm
  | .cmpR16R16 | .cmpR8R8 | .cmpR16Imm | .cmpR8Imm
  | .andR16R16 | .andR8R8 | .andR16Imm | .andR8Imm | .orR16R16 | .orR8R8 | .orR16Imm | .orR8Imm
  | .xorR16R16 | .xorR8R8 | .xorR16Imm | .xorR8Imm | .notR16 | .notR8
  | .shlR16Imm | .shlR16Cl | .shlR8Imm | .shlR8Cl | .shrR16Imm | .shrR16Cl | .shrR8Imm | .shrR8Cl
  | .sarR16Imm | .sarR16Cl | .sarR8Imm | .sarR8Cl => [.carry, .zero, .sign, .overflow]
  | .incR16 | .incR8 | .decR16 | .decR8 => [.zero, .sign, .overflow]
  | .rolR16Imm | .rolR16Cl | .rolR8Imm | .rolR8Cl | .rorR16Imm | .rorR16Cl | .rorR8Imm | .rorR8Cl
  | .rclR16Imm | .rclR16Cl | .rclR8Imm | .rclR8Cl | .rcrR16Imm | .rcrR16Cl | .rcrR8Imm | .rcrR8Cl => [.carry, .overflow]
  | .movR16R16 | .movR8R8 | .movR16Imm | .movR8Imm | .movR16Mem | .movMemR16 | .movR16Ind | .movIndR16 | .movR16Pair
  | .movPairR16 | .movR8Mem | .movMemR8 | .movR8Ind | .movIndR8 | .movR8Pair | .movPairR8 | .movMemImm8 | .movMemImm16
  | .xchgR16R16 | .xchgR8R8 | .pushR16 | .popR16 | .jmp | .jz | .jnz | .jc | .jnc | .js | .jns | .jo | .jno | .call | .ret
  | .halt => []

/-! ## The bytes of memory an instruction stores to (the table of 20_memory.md R48) -/

/-- The addresses `i` stores to when it executes in `s`: the effective address of a MOV store (the one its meaning
stores to), the word at SP - 2 for PUSH and CALL, nothing for every other instruction. -/
def storeAddrs (s : State) : Instr → List Addr
  | .movMemR16 _ a => [s.ea (.direct a), s.ea (.direct a) + 1]
  | .movIndR16 b _ => [s.ea (.indirect b), s.ea (.indirect b) + 1]
  | .movPairR16 b x _ => [s.ea (.pair b x), s.ea (.pair b x) + 1]
  | .movMemImm16 a _ => [s.ea (.direct a), s.ea (.direct a) + 1]
  | .movMemR8 _ a => [s.ea (.direct a)]
  | .movIndR8 b _ => [s.ea (.indirect b)]
  | .movPairR8 b x _ => [s.ea (.pair b x)]
  | .movMemImm8 a _ => [s.ea (.direct a)]
  | .pushR16 _ => [s.get16 .sp - 2, s.get16 .sp - 1]
  | .call _ => [s.get16 .sp - 2, s.get16 .sp - 1]
  | _ => []

/-! ## The invariant -/

/-- What a fault record says is true of the machine as it stands, stopped before the instruction it names. -/
def FaultReason.TrueOf (s : State) : FaultReason → Prop
  | .unknownOpcode op ip => ip = s.ip ∧ op = s.mem8 s.ip ∧ opMap op = none
  | .badRegister code ip => ip = s.ip ∧ decodeFrom s.fetch8 = .error (.badRegister code)

/-- What RS says is true of the machine: nothing while it runs; once halted, IP is at the byte after a HALT opcode; once
faulted, the record names what stands at IP. -/
def RunState.TrueOf (s : State) : RunState → Prop
  | .running => True
  | .halted => s.mem8 (s.ip - 1) = Variant.opcode .halt
  | .faulted r => r.TrueOf s

/-- The invariant: memory is in canonical form, and RS tells the truth. -/
structure Inv (s : State) : Prop where
  mem : s.mem.wf = true
  rs : s.rs.TrueOf s

end Sys2Proof.Machine
end

