-- ==== Sys2Proof/Certificates/Slice0/Obligations.lean ====
section
/-! DEFINITION. The statements for the provers. Where a statement rests on a decision of the spec (D1 to D32) or on general
knowledge the spec marks as its own (G1 to G5), its docstring names the log entry. -/

open Sys2Proof Sys2Proof.Machine

/-! ## The step -/

/-- When the bytes at IP decode to an instruction, a step of a running machine is that instruction and nothing around it. -/
def Obligations.StepRunsDecodedInstruction : Prop :=
  ∀ (s : State) (i : Instr), s.rs = .running → decodeFrom s.fetch8 = .ok i → step s = exec i s

/-- When the bytes the encoder gives for `i` stand at IP, a step runs `i`, whatever stands after them. -/
def Obligations.StepRunsInstructionBytesAtIp : Prop :=
  ∀ (s : State) (i : Instr), s.rs = .running → BytesAtIp s (encode i) → step s = exec i s

/-- The instruction of a table word, placed by `withFetchWord`, is what the next step runs (log entries 2 and 28). -/
def Obligations.StepRunsPlacedTableWord : Prop :=
  ∀ (s : State) (nbits w : Nat) (i : Instr), decodeTableWord nbits w = some i →
    step (s.withFetchWord nbits w) = exec i (s.withFetchWord nbits w)

/-- An unassigned opcode: RS records the opcode byte and IP, nothing else changes, no later byte matters, the step reports
error. -/
def Obligations.UnassignedOpcodeFaults : Prop :=
  (∀ s : State, s.rs = .running → opMap (s.mem8 s.ip) = none →
    step s = .next { s with rs := .faulted (.unknownOpcode (s.mem8 s.ip) s.ip) }) ∧
  (∀ f g : FetchFn, opMap (f 0) = none → f 0 = g 0 → decodeFrom f = decodeFrom g) ∧
  (∀ r : FaultReason, (RunState.faulted r).report = .error r) ∧
  step State.reset = .next { State.reset with rs := .faulted (.unknownOpcode 0x00 0x0000) }

/-- A byte outside the code set its place calls for: RS records the lowest one and IP, nothing else changes. That it is a
fault of this shape, checked before any effect, is D12 (log entry 7). -/
def Obligations.BadRegisterFaultsPrecisely : Prop :=
  ∀ (s : State) (v : Variant) (b : Byte), s.rs = .running → s.mem8 s.ip = v.opcode →
    firstBadByte v.layout (operandBytes s.fetch8 v) = some b →
    step s = .next { s with rs := .faulted (.badRegister b s.ip) }

/-- Decoding follows the layout of the opcode: every register-code byte in its set gives an instruction of that variant, else
the lowest bad byte is reported (D12, D32: log entry 7). The two sets are 0x00 to 0x08 and 0x10 to 0x19, the registers and
the views in the order of their names (D2: log entry 4). -/
def Obligations.DecodeFollowsLayout : Prop :=
  (∀ (f : FetchFn) (v : Variant), f 0 = v.opcode →
    (firstBadByte v.layout (operandBytes f v) = none → ∃ i, decodeFrom f = .ok i ∧ i.variant = v) ∧
    (∀ b, firstBadByte v.layout (operandBytes f v) = some b → decodeFrom f = .error (.badRegister b))) ∧
  (∀ b : Byte, (Field.code16.admits b = true ↔ b.toNat ≤ 0x08) ∧
    (Field.code8.admits b = true ↔ 0x10 ≤ b.toNat ∧ b.toNat ≤ 0x19)) ∧
  (∀ (n : Nat) (r : Reg16), ([.ax, .bx, .cx, .dx, .ex, .sp, .bp, .si, .di] : List Reg16)[n]? = some r →
    r.code.toNat = n ∧ reg16OfCode r.code = some r) ∧
  (∀ (n : Nat) (r : Reg8), ([.al, .ah, .bl, .bh, .cl, .ch, .dl, .dh, .el, .eh] : List Reg8)[n]? = some r →
    r.code.toNat = 0x10 + n ∧ reg8OfCode r.code = some r)

/-- No step and no instruction stops outside the state: every fault is a transition of RS (log entry 1). -/
def Obligations.EveryStepAnswersNext : Prop :=
  (∀ s : State, ∃ t, step s = .next t) ∧ (∀ (i : Instr) (s : State), ∃ t, exec i s = .next t)

/-- In Halted and Faulted a step and a run change nothing: D14 (log entry 9). -/
def Obligations.TerminalStatesAreStuck : Prop :=
  ∀ s : State, s.rs ≠ .running → step s = .next s ∧ ∀ n, runFor n s = .next s

/-- Running at reset with IP 0; a step changes RS only from Running, to Halted by HALT and to Faulted by a fault; no step and
no host operation but reset leaves a terminal state, and reset leaves it. -/
def Obligations.RunStateChangesOnlyByHaltOrFault : Prop :=
  (State.reset.rs = .running ∧ State.reset.ip = 0) ∧
  (∀ s : State, s.rs = .running → decodeFrom s.fetch8 = .ok .halt → ∃ t, step s = .next t ∧ t.rs = .halted) ∧
  (∀ (s : State) (e : DecodeFault), s.rs = .running → decodeFrom s.fetch8 = .error e →
    ∃ t, step s = .next t ∧ t.rs = .faulted (s.reasonOf e)) ∧
  (∀ (s : State) (i : Instr), s.rs = .running → decodeFrom s.fetch8 = .ok i → i ≠ .halt →
    ∃ t, step s = .next t ∧ t.rs = .running) ∧
  (∀ (s t : State) (op : HostOp), s.rs ≠ .running → op ≠ .reset → s.apply op = .next t → t.rs = s.rs) ∧
  (∀ s : State, s.apply .reset = .next State.reset)

/-! ## Reset, load, run -/

/-- Every field after reset. SP by D7, the flags by D8, memory by D9 (log entry 3). -/
def Obligations.ResetState : Prop :=
  (∀ r, r ≠ Reg16.sp → State.reset.get16 r = 0) ∧ State.reset.get16 .sp = 0xFFFE ∧ State.reset.ip = 0 ∧
  State.reset.flags = ⟨false, false, false, false⟩ ∧ (∀ a, State.reset.mem8 a = 0) ∧ State.reset.rs = .running

/-- The invariant holds at reset. -/
def Obligations.ResetSatisfiesInv : Prop := Inv State.reset

/-- Every step keeps the invariant: memory in canonical form, and RS true of the machine (a halted machine stands behind a
HALT opcode; a fault record names IP and what stands there). That HALT advances IP is D13, the shape of BadRegister D12 (log
entries 7, 8, 26). -/
def Obligations.StepKeepsInv : Prop :=
  ∀ s t : State, Inv s → step s = .next t → Inv t

/-- After reset, and after any image is loaded, the first instruction is the one whose bytes start at address 0. -/
def Obligations.FirstInstructionIsAtAddressZero : Prop :=
  State.reset.ip = 0 ∧
  ∀ (image : List Byte) (t : State) (i : Instr), State.reset.load image = some t →
    decodeFrom (fun k => t.mem8 (BitVec.ofNat 16 k)) = .ok i → step t = exec i t

/-- Loading replaces the bytes from address 0 up and nothing else; an image longer than memory is refused (D26, log entry
20). -/
def Obligations.LoadReplacesImageBytes : Prop :=
  ∀ (s : State) (image : List Byte),
    (image.length ≤ 65536 → ∃ t, s.load image = some t ∧
      (∀ k (h : k < image.length), t.mem8 (BitVec.ofNat 16 k) = image[k]) ∧
      (∀ a : Addr, image.length ≤ a.toNat → t.mem8 a = s.mem8 a) ∧
      (∀ r, t.get16 r = s.get16 r) ∧ t.ip = s.ip ∧ t.flags = s.flags ∧ t.rs = s.rs) ∧
    (65536 < image.length → s.load image = none ∧ s.apply (.load image) = .next s)

/-- Run is step repeated while RS is Running; it returns at once in a terminal state and reports which; it need not return: a
JMP to itself runs for ever. The bound that the caller gives, and that a bound which is reached leaves RS Running, are the
model's choice (log entry 20). -/
def Obligations.RunRepeatsStep : Prop :=
  (∀ (s t : State) (n : Nat), s.rs = .running → step s = .next t → runFor (n + 1) s = runFor n t) ∧
  (∀ (s : State) (n : Nat), s.rs ≠ .running → runFor n s = .next s) ∧
  (RunState.halted.report = .halt ∧ ∀ r, (RunState.faulted r).report = .error r) ∧
  (∀ (s t : State) (m n : Nat), runFor m s = .next t → runFor (m + n) s = runFor n t) ∧
  (∀ s : State, s.rs = .running → BytesAtIp s (encode (.jmp s.ip)) → ∀ n, runFor n s = .next s)

/-! ## Registers and memory -/

/-- The aliasing laws: each view is one half of its parent and no other register's. That L names the low half is G1 (log
entry 17). -/
def Obligations.ViewsAliasTheirParent : Prop :=
  ∀ p ∈ ([(.ax, .al, .ah), (.bx, .bl, .bh), (.cx, .cl, .ch), (.dx, .dl, .dh), (.ex, .el, .eh)] : List (Reg16 × Reg8 × Reg8)),
  ∀ (s : State) (v : Word) (b : Byte),
    s.get8 p.2.1 = BitVec.ofNat 8 (s.get16 p.1).toNat ∧
    s.get8 p.2.2 = BitVec.ofNat 8 ((s.get16 p.1).toNat / 256) ∧
    ((s.set8 p.2.1 b).get16 p.1).toNat = (s.get16 p.1).toNat / 256 * 256 + b.toNat ∧
    ((s.set8 p.2.2 b).get16 p.1).toNat = b.toNat * 256 + (s.get16 p.1).toNat % 256 ∧
    (s.set16 p.1 v).get16 p.1 = v ∧
    (∀ r, r ≠ p.1 → (s.set8 p.2.1 b).get16 r = s.get16 r ∧ (s.set8 p.2.2 b).get16 r = s.get16 r ∧
      (s.set16 p.1 v).get16 r = s.get16 r)

/-- Byte reads after byte and word writes, and words as two bytes, low byte first; at 0xFFFF the second byte is at 0x0000
(D10, log entry 5). -/
def Obligations.MemoryAccessLaws : Prop :=
  (∀ (s : State) (a b : Addr) (v : Byte), (s.setMem8 a v).mem8 b = if b = a then v else s.mem8 b) ∧
  (∀ (s : State) (a : Addr), (s.mem16 a).toNat = (s.mem8 a).toNat + 256 * (s.mem8 (a + 1)).toNat) ∧
  (∀ (s : State) (a b : Addr) (v : Word), (s.setMem16 a v).mem8 b =
    if b = a then BitVec.ofNat 8 v.toNat else if b = a + 1 then BitVec.ofNat 8 (v.toNat / 256) else s.mem8 b) ∧
  (∀ (s : State) (a : Addr) (v : Word), (s.setMem16 a v).mem16 a = v)

/-- A store is seen by the very next fetch: a MOV that stores a byte just behind itself decides the next opcode (D28, log
entry 16). -/
def Obligations.StoreIsSeenByNextFetch : Prop :=
  ∀ (s : State) (v : Byte), s.rs = .running → BytesAtIp s (encode (.movMemImm8 (s.ip + 4) v)) →
    ∃ t, step s = .next t ∧ t.ip = s.ip + 4 ∧ t.fetch8 0 = v ∧ t.rs = .running ∧
      (opMap v = none → step t = .next { t with rs := .faulted (.unknownOpcode v (s.ip + 4)) })

/-- No instruction changes a byte outside those the table of access widths gives it (20_memory.md R48): all of memory stays
for every instruction but the MOV stores, PUSH and CALL. -/
def Obligations.MemoryChangesOnlyWhereStored : Prop :=
  ∀ (i : Instr) (s : State), ∃ t, exec i s = .next t ∧ ∀ a, a ∉ storeAddrs s i → t.mem8 a = s.mem8 a

/-- No instruction writes a flag that the table of 10_state.md R19 does not give it; the table rests on D16 and D19 (log
entries 11, 12). -/
def Obligations.FlagsChangeOnlyByTheirTable : Prop :=
  ∀ (i : Instr) (s : State), ∃ t, exec i s = .next t ∧ ∀ f, f ∉ mayWriteFlags i.variant → t.flags.get f = s.flags.get f

/-! ## Encoding -/

/-- Decoding the bytes of an instruction gives it back, with every operand at every value, whatever follows. -/
def Obligations.EncodeThenDecode : Prop :=
  (∀ (i : Instr) (rest : List Byte), decodeBytes (encode i ++ rest) = .ok (i, rest)) ∧
  (∀ (i : Instr) (f : FetchFn), (∀ k (h : k < (encode i).length), f k = (encode i)[k]) → decodeFrom f = .ok i)

/-- Encoding what was decoded gives back every byte of it, but for the uninterpreted byte of a shift by CL, which becomes
0x14 (D20, log entry 13). -/
def Obligations.DecodeThenEncode : Prop :=
  ∀ (f : FetchFn) (i : Instr), decodeFrom f = .ok i →
    (encode i).length = i.variant.layout.length + 1 ∧ (encode i)[0]? = some (f 0) ∧
    ∀ (k : Nat) (x : Field), i.variant.layout[k]? = some x →
      (encode i)[k + 1]? = some (if x = .ignored then 0x14 else f (k + 1))

/-- The length is a function of byte 0 only, 1 to 5, and the next sequential instruction starts at IP + length. -/
def Obligations.LengthIsDecidedByOpcode : Prop :=
  (∀ (bs rest : List Byte) (i : Instr), decodeBytes bs = .ok (i, rest) →
    ∃ v, (bs.head?.bind opMap) = some v ∧ i.variant = v ∧ bs.length = v.length + rest.length ∧ rest = bs.drop v.length) ∧
  (∀ v : Variant, 1 ≤ v.length ∧ v.length ≤ 5) ∧
  (∀ (i : Instr) (s : State), i.variant.format ≠ .a → i ≠ .ret → i ≠ .halt →
    ∃ t, exec i s = .next t ∧ t.ip = s.ip + BitVec.ofNat 16 i.variant.length)

/-- Which opcode each variant has, one variant each, and which bytes are unassigned; the ALU and shift opcodes are those of the
regular part of the map, `0x40 + 4*k + f` and `0x80 + 4*k + f`. The values are D4 (log entry 4). -/
def Obligations.AssignedOpcodes : Prop :=
  (∀ v u : Variant, opMap v.opcode = some v ∧ (u.opcode = v.opcode → u = v)) ∧
  (∀ op : Byte, opMap op = none ↔
    op.toNat = 0 ∨ (3 ≤ op.toNat ∧ op.toNat ≤ 0x0F) ∨ (0x1A ≤ op.toNat ∧ op.toNat ≤ 0x1F) ∨
    (0x34 ≤ op.toNat ∧ op.toNat ≤ 0x3F) ∨ (0x68 ≤ op.toNat ∧ op.toNat ≤ 0x7F) ∨ 0x9C ≤ op.toNat) ∧
  (Variant.opcode .halt = 0x01 ∧ Variant.opcode .ret = 0x02) ∧
  (∀ (n : Nat) (v : Variant), jumpVariants[n]? = some v → v.opcode.toNat = 0x10 + n) ∧
  (∀ (n : Nat) (v : Variant), moveVariants[n]? = some v → v.opcode.toNat = 0x20 + n) ∧
  (∀ (k f : Nat) (row : List Variant) (v : Variant), aluVariants[k]? = some row →
    row[f]? = some v → v.opcode.toNat = 0x40 + 4 * k + f) ∧
  (∀ (n : Nat) (v : Variant), unaryVariants[n]? = some v → v.opcode.toNat = 0x60 + n) ∧
  (∀ (k f : Nat) (row : List Variant) (v : Variant), shiftVariants[k]? = some row →
    row[f]? = some v → v.opcode.toNat = 0x80 + 4 * k + f)

/-- For every row of the opcode table (30_encoding.md R85) one sequence of bytes, written out from its layout, decodes to the
instruction it stands for, every operand in its place (D2, D4: log entry 4). -/
def Obligations.SampleWordsDecode : Prop :=
  (∀ p ∈ ([
      ([0x01], .halt),
      ([0x02], .ret),
      ([0x10, 0x36, 0x12], .jmp 0x1236),
      ([0x11, 0x37, 0x12], .call 0x1237),
      ([0x12, 0x38, 0x12], .jz 0x1238),
      ([0x13, 0x39, 0x12], .jnz 0x1239),
      ([0x14, 0x3A, 0x12], .jc 0x123A),
      ([0x15, 0x3B, 0x12], .jnc 0x123B),
      ([0x16, 0x3C, 0x12], .js 0x123C),
      ([0x17, 0x3D, 0x12], .jns 0x123D),
      ([0x18, 0x3E, 0x12], .jo 0x123E),
      ([0x19, 0x3F, 0x12], .jno 0x123F)] : List (List Byte × Instr)),
    decodeBytes p.1 = .ok (p.2, [])) ∧
  (∀ p ∈ ([
      ([0x20, 0x04, 0x08], .movR16R16 .ex .di),
      ([0x21, 0x14, 0x17], .movR8R8 .cl .dh),
      ([0x22, 0x06, 0x42, 0x13], .movR16Imm .bp 0x1342),
      ([0x23, 0x16, 0xAF], .movR8Imm .dl 0xAF),
      ([0x24, 0x08, 0x44, 0x13], .movR16Mem .di 0x1344),
      ([0x25, 0x00, 0x45, 0x13], .movMemR16 .ax 0x1345),
      ([0x26, 0x01, 0x05], .movR16Ind .bx .sp),
      ([0x27, 0x02, 0x06], .movIndR16 .cx .bp),
      ([0x28, 0x03, 0x07, 0x02], .movR16Pair .dx .si .cx),
      ([0x29, 0x04, 0x08, 0x03], .movPairR16 .ex .di .dx),
      ([0x2A, 0x13, 0x4A, 0x13], .movR8Mem .bh 0x134A),
      ([0x2B, 0x14, 0x4B, 0x13], .movMemR8 .cl 0x134B),
      ([0x2C, 0x15, 0x02], .movR8Ind .ch .cx),
      ([0x2D, 0x08, 0x19], .movIndR8 .di .eh),
      ([0x2E, 0x17, 0x04, 0x08], .movR8Pair .dh .ex .di),
      ([0x2F, 0x01, 0x05, 0x14], .movPairR8 .bx .sp .cl),
      ([0x30, 0x50, 0x12, 0xBC], .movMemImm8 0x1250 0xBC),
      ([0x31, 0x51, 0x12, 0x51, 0x19], .movMemImm16 0x1251 0x1951),
      ([0x32, 0x04, 0x08], .xchgR16R16 .ex .di),
      ([0x33, 0x12, 0x15], .xchgR8R8 .bl .ch)] : List (List Byte × Instr)),
    decodeBytes p.1 = .ok (p.2, [])) ∧
  (∀ p ∈ ([
      ([0x40, 0x06, 0x01], .addR16R16 .bp .bx),
      ([0x41, 0x14, 0x17], .addR8R8 .cl .dh),
      ([0x42, 0x08, 0x56, 0x13], .addR16Imm .di 0x1356),
      ([0x43, 0x16, 0xC3], .addR8Imm .dl 0xC3),
      ([0x44, 0x01, 0x05], .adcR16R16 .bx .sp),
      ([0x45, 0x18, 0x11], .adcR8R8 .el .ah),
      ([0x46, 0x03, 0x5A, 0x13], .adcR16Imm .dx 0x135A),
      ([0x47, 0x10, 0xC7], .adcR8Imm .al 0xC7)] : List (List Byte × Instr)),
    decodeBytes p.1 = .ok (p.2, [])) ∧
  (∀ p ∈ ([
      ([0x48, 0x05, 0x00], .subR16R16 .sp .ax),
      ([0x49, 0x12, 0x15], .subR8R8 .bl .ch),
      ([0x4A, 0x07, 0x5E, 0x13], .subR16Imm .si 0x135E),
      ([0x4B, 0x14, 0xCB], .subR8Imm .cl 0xCB),
      ([0x4C, 0x00, 0x04], .sbbR16R16 .ax .ex),
      ([0x4D, 0x16, 0x19], .sbbR8R8 .dl .eh),
      ([0x4E, 0x02, 0x62, 0x13], .sbbR16Imm .cx 0x1362),
      ([0x4F, 0x18, 0xCF], .sbbR8Imm .el 0xCF),
      ([0x50, 0x04, 0x08], .cmpR16R16 .ex .di),
      ([0x51, 0x10, 0x13], .cmpR8R8 .al .bh),
      ([0x52, 0x06, 0x66, 0x13], .cmpR16Imm .bp 0x1366),
      ([0x53, 0x12, 0xD3], .cmpR8Imm .bl 0xD3)] : List (List Byte × Instr)),
    decodeBytes p.1 = .ok (p.2, [])) ∧
  (∀ p ∈ ([
      ([0x54, 0x08, 0x03], .andR16R16 .di .dx),
      ([0x55, 0x14, 0x17], .andR8R8 .cl .dh),
      ([0x56, 0x01, 0x6A, 0x13], .andR16Imm .bx 0x136A),
      ([0x57, 0x16, 0xD7], .andR8Imm .dl 0xD7),
      ([0x58, 0x03, 0x07], .orR16R16 .dx .si),
      ([0x59, 0x18, 0x11], .orR8R8 .el .ah),
      ([0x5A, 0x05, 0x6E, 0x13], .orR16Imm .sp 0x136E),
      ([0x5B, 0x10, 0xDB], .orR8Imm .al 0xDB),
      ([0x5C, 0x07, 0x02], .xorR16R16 .si .cx),
      ([0x5D, 0x12, 0x15], .xorR8R8 .bl .ch),
      ([0x5E, 0x00, 0x72, 0x13], .xorR16Imm .ax 0x1372),
      ([0x5F, 0x14, 0xDF], .xorR8Imm .cl 0xDF)] : List (List Byte × Instr)),
    decodeBytes p.1 = .ok (p.2, [])) ∧
  (∀ p ∈ ([
      ([0x60, 0x02], .incR16 .cx),
      ([0x61, 0x16], .incR8 .dl),
      ([0x62, 0x04], .decR16 .ex),
      ([0x63, 0x18], .decR8 .el),
      ([0x64, 0x06], .notR16 .bp),
      ([0x65, 0x10], .notR8 .al),
      ([0x66, 0x08], .pushR16 .di),
      ([0x67, 0x00], .popR16 .ax)] : List (List Byte × Instr)),
    decodeBytes p.1 = .ok (p.2, [])) ∧
  (∀ p ∈ ([
      ([0x80, 0x01, 0xE8], .shlR16Imm .bx 0xE8),
      ([0x81, 0x02, 0x14], .shlR16Cl .cx),
      ([0x82, 0x15, 0xEA], .shlR8Imm .ch 0xEA),
      ([0x83, 0x16, 0x14], .shlR8Cl .dl),
      ([0x84, 0x05, 0xEC], .shrR16Imm .sp 0xEC),
      ([0x85, 0x06, 0x14], .shrR16Cl .bp),
      ([0x86, 0x19, 0xEE], .shrR8Imm .eh 0xEE),
      ([0x87, 0x10, 0x14], .shrR8Cl .al),
      ([0x88, 0x00, 0xF0], .sarR16Imm .ax 0xF0),
      ([0x89, 0x01, 0x14], .sarR16Cl .bx),
      ([0x8A, 0x13, 0xF2], .sarR8Imm .bh 0xF2),
      ([0x8B, 0x14, 0x14], .sarR8Cl .cl)] : List (List Byte × Instr)),
    decodeBytes p.1 = .ok (p.2, [])) ∧
  (∀ p ∈ ([
      ([0x8C, 0x04, 0xF4], .rolR16Imm .ex 0xF4),
      ([0x8D, 0x05, 0x14], .rolR16Cl .sp),
      ([0x8E, 0x17, 0xF6], .rolR8Imm .dh 0xF6),
      ([0x8F, 0x18, 0x14], .rolR8Cl .el),
      ([0x90, 0x08, 0xF8], .rorR16Imm .di 0xF8),
      ([0x91, 0x00, 0x14], .rorR16Cl .ax),
      ([0x92, 0x11, 0xFA], .rorR8Imm .ah 0xFA),
      ([0x93, 0x12, 0x14], .rorR8Cl .bl),
      ([0x94, 0x03, 0xFC], .rclR16Imm .dx 0xFC),
      ([0x95, 0x04, 0x14], .rclR16Cl .ex),
      ([0x96, 0x15, 0xFE], .rclR8Imm .ch 0xFE),
      ([0x97, 0x16, 0x14], .rclR8Cl .dl),
      ([0x98, 0x07, 0x00], .rcrR16Imm .si 0x00),
      ([0x99, 0x08, 0x14], .rcrR16Cl .di),
      ([0x9A, 0x19, 0x02], .rcrR8Imm .eh 0x02),
      ([0x9B, 0x10, 0x14], .rcrR8Cl .al)] : List (List Byte × Instr)),
    decodeBytes p.1 = .ok (p.2, []))

/-- Byte 2 of the 14 shift-by-CL variants changes nothing of what is decoded (D20, log entry 13). -/
def Obligations.ClShiftSecondByteIsIgnored : Prop :=
  ∀ (f g : FetchFn) (v : Variant), f 0 = v.opcode → v.layout[1]? = some .ignored → (∀ k, k ≠ 2 → f k = g k) →
    decodeFrom f = decodeFrom g

/-- The encoder and the decoder agree on every line the encoder accepts; the decoder accepts redundant encodings that no line
gives: another byte in the uninterpreted place of a shift by CL, and a word store of a value below 0x100. -/
def Obligations.EncoderAndDecoderAgree : Prop :=
  (∀ (labels : Asm.Labels) (m : Asm.Text) (ops : List Asm.Text) (bs : List Byte), Asm.encodeLine labels m ops = .ok bs →
    ∃ i, Asm.select labels m ops = .ok i ∧ bs.length = i.variant.length ∧
      (∀ rest, decodeBytes (bs ++ rest) = .ok (i, rest)) ∧
      (∀ f : FetchFn, (∀ k (h : k < bs.length), f k = bs[k]) → decodeFrom f = .ok i)) ∧
  (∀ (v : Variant) (c b : Byte), v.layout[1]? = some .ignored → firstBadByte v.layout [c, b] = none → b ≠ 0x14 →
    (∃ i, decodeBytes [v.opcode, c, b] = .ok (i, [])) ∧
    ∀ labels m ops, Asm.encodeLine labels m ops ≠ .ok [v.opcode, c, b]) ∧
  (∀ lo hi n : Byte,
    decodeBytes [0x31, lo, hi, n, 0x00] = .ok (.movMemImm16 (hi ++ lo) (n.setWidth 16), []) ∧
    ∀ labels m ops, Asm.encodeLine labels m ops ≠ .ok [0x31, lo, hi, n, 0x00])

/-- The length pass 1 assumes for a line is the length pass 2 emits for it, whatever the labels are. -/
def Obligations.PassOneLengthMatchesEmission : Prop :=
  ∀ (labels : Asm.Labels) (number : Nat) (m : Asm.Text) (ops : List Asm.Text) (bs : List Byte),
    Asm.encodeLine labels m ops = .ok bs → Asm.pass1Length number m ops = bs.length

/-- When a program assembles, the address of each of its labels is the number of bytes its lines before that label give. A
program that defines a label twice does not assemble (D25), and when the lines before the second definition have no error the
error is reported at its line, the model's choice (log entry 24). -/
def Obligations.LabelAddressIsWhereItsCodeStands : Prop :=
  (∀ (before after : List Asm.Text) (line name : Asm.Text) (code : List Byte), Asm.parseLine line = .label name →
    Asm.assemble (before ++ line :: after) = .ok code →
    ∃ head tail, code = head ++ tail ∧
      Asm.pass2 (Asm.lookup (Asm.labelTable 1 0 (before ++ line :: after))) 1 [] before = .ok head ∧
      Asm.lookup (Asm.labelTable 1 0 (before ++ line :: after)) name = some head.length) ∧
  (∀ (before middle after : List Asm.Text) (line line2 name : Asm.Text), Asm.parseLine line = .label name →
    Asm.parseLine line2 = .label name →
    (∃ e, Asm.assembleResult (before ++ line :: (middle ++ line2 :: after)) = ⟨[], some e⟩) ∧
    ∀ head, Asm.pass2 (Asm.lookup (Asm.labelTable 1 0 (before ++ line :: (middle ++ line2 :: after)))) 1 []
        (before ++ line :: middle) = .ok head →
      Asm.assembleResult (before ++ line :: (middle ++ line2 :: after)) =
        ⟨[], some (.duplicateLabel, before.length + middle.length + 2)⟩)

/-- The error of an assembly, its kind and its line, does not depend on the address of any label, so neither on the length
pass 1 assumes for a line that is rejected (log entries 25, 34). -/
def Obligations.AssemblyErrorDoesNotDependOnAddresses : Prop :=
  ∀ (labels other : Asm.Labels), (∀ name, (labels name).isSome = (other name).isSome) →
    ∀ (number : Nat) (defined lines : List Asm.Text) (e : Asm.AsmError × Nat),
      Asm.pass2 labels number defined lines = .error e → Asm.pass2 other number defined lines = .error e

/-! ## Data movement. That MOV copies and XCHG exchanges is G2 (log entry 17). -/

/-- MOV between registers and of an immediate, both widths. -/
def Obligations.MovCopiesRegisterOrImmediate : Prop :=
  ∀ s : State,
    (∀ d r, ∃ t, exec (.movR16R16 d r) s = .next t ∧ Result16 s t d (s.get16 r, s.flags) 3) ∧
    (∀ d r, ∃ t, exec (.movR8R8 d r) s = .next t ∧ Result8 s t d (s.get8 r, s.flags) 3) ∧
    (∀ d v, ∃ t, exec (.movR16Imm d v) s = .next t ∧ Result16 s t d (v, s.flags) 4) ∧
    (∀ d v, ∃ t, exec (.movR8Imm d v) s = .next t ∧ Result8 s t d (v, s.flags) 3)

/-- The three word loads: the little-endian word at the address formed from the registers before the write (D10, D24: log
entries 5, 6). -/
def Obligations.MovLoadsWord : Prop :=
  ∀ s : State,
    (∀ d a, ∃ t, exec (.movR16Mem d a) s = .next t ∧
      Result16 s t d (BitVec.ofNat 16 ((s.mem8 a).toNat + 256 * (s.mem8 (a + 1)).toNat), s.flags) 4) ∧
    (∀ d b, ∃ t, exec (.movR16Ind d b) s = .next t ∧
      Result16 s t d
        (BitVec.ofNat 16 ((s.mem8 (s.get16 b)).toNat + 256 * (s.mem8 (s.get16 b + 1)).toNat), s.flags) 3) ∧
    (∀ d b x, ∃ t, exec (.movR16Pair d b x) s = .next t ∧
      Result16 s t d
        (BitVec.ofNat 16 ((s.mem8 (s.get16 b + s.get16 x)).toNat + 256 * (s.mem8 (s.get16 b + s.get16 x + 1)).toNat),
          s.flags) 4)

/-- The three byte loads: only the named half of the parent changes. -/
def Obligations.MovLoadsByte : Prop :=
  ∀ s : State,
    (∀ d a, ∃ t, exec (.movR8Mem d a) s = .next t ∧ Result8 s t d (s.mem8 a, s.flags) 4) ∧
    (∀ d b, ∃ t, exec (.movR8Ind d b) s = .next t ∧ Result8 s t d (s.mem8 (s.get16 b), s.flags) 3) ∧
    (∀ d b x, ∃ t, exec (.movR8Pair d b x) s = .next t ∧ Result8 s t d (s.mem8 (s.get16 b + s.get16 x), s.flags) 4)

/-- The four word stores, at the effective address the meaning computes. -/
def Obligations.MovStoresWord : Prop :=
  ∀ s : State,
    (∀ r a, ∃ t, exec (.movMemR16 r a) s = .next t ∧ Stored16 s t (s.ea (.direct a)) (s.get16 r) 4) ∧
    (∀ b r, ∃ t, exec (.movIndR16 b r) s = .next t ∧ Stored16 s t (s.ea (.indirect b)) (s.get16 r) 3) ∧
    (∀ b x r, ∃ t, exec (.movPairR16 b x r) s = .next t ∧ Stored16 s t (s.ea (.pair b x)) (s.get16 r) 4) ∧
    (∀ a v, ∃ t, exec (.movMemImm16 a v) s = .next t ∧ Stored16 s t (s.ea (.direct a)) v 5)

/-- The four byte stores. -/
def Obligations.MovStoresByte : Prop :=
  ∀ s : State,
    (∀ r a, ∃ t, exec (.movMemR8 r a) s = .next t ∧ Stored8 s t (s.ea (.direct a)) (s.get8 r) 4) ∧
    (∀ b r, ∃ t, exec (.movIndR8 b r) s = .next t ∧ Stored8 s t (s.ea (.indirect b)) (s.get8 r) 3) ∧
    (∀ b x r, ∃ t, exec (.movPairR8 b x r) s = .next t ∧ Stored8 s t (s.ea (.pair b x)) (s.get8 r) 4) ∧
    (∀ a v, ∃ t, exec (.movMemImm8 a v) s = .next t ∧ Stored8 s t (s.ea (.direct a)) v 4)

/-- XCHG: both operands are read before either is written; the two may be one register, or the halves of one. -/
def Obligations.XchgExchanges : Prop :=
  ∀ s : State,
    (∀ d r, ∃ t, exec (.xchgR16R16 d r) s = .next t ∧ t.get16 d = s.get16 r ∧ t.get16 r = s.get16 d ∧
      (∀ q, q ≠ d → q ≠ r → t.get16 q = s.get16 q) ∧ t.flags = s.flags ∧ t.rs = s.rs ∧ t.ip = s.ip + 3 ∧
      ∀ a, t.mem8 a = s.mem8 a) ∧
    (∀ d r, ∃ t, exec (.xchgR8R8 d r) s = .next t ∧ t.get8 d = s.get8 r ∧ t.get8 r = s.get8 d ∧
      (∀ q, q ≠ d → q ≠ r → t.get8 q = s.get8 q) ∧
      (∀ q, q ≠ parentOf d → q ≠ parentOf r → t.get16 q = s.get16 q) ∧ t.flags = s.flags ∧ t.rs = s.rs ∧ t.ip = s.ip + 3 ∧
      ∀ a, t.mem8 a = s.mem8 a)

/-! ## Arithmetic -/

/-- The flag rule of ADD and ADC in plain integer arithmetic, and that both execute by it: ADD with its two operands, ADC with
a folded one, which is the source plus CF. That the fold is not truncated first is D15 (log entry 10) and is not said here. -/
def Obligations.FlagsAddRule : Prop :=
  (∀ w, w = 8 ∨ w = 16 → ∀ dest src result : Int, flagsAdd w dest src result =
    { cf := decide (result > 2 ^ w - 1)
      zf := decide (result % 2 ^ w = 0)
      sf := decide (2 ^ (w - 1) ≤ result % 2 ^ w)
      of := decide (2 ^ (w - 1) ≤ dest % 2 ^ w) == decide (2 ^ (w - 1) ≤ src % 2 ^ w) &&
        decide (2 ^ (w - 1) ≤ result % 2 ^ w) != decide (2 ^ (w - 1) ≤ dest % 2 ^ w) }) ∧
  ∀ s : State,
      (∀ d r, ∃ t, exec (.addR16R16 d r) s = .next t ∧ t.flags = flagsOfSum (s.get16 d) (s.get16 r)) ∧
      (∀ d r, ∃ t, exec (.addR8R8 d r) s = .next t ∧ t.flags = flagsOfSum (s.get8 d) (s.get8 r)) ∧
      (∀ d v, ∃ t, exec (.addR16Imm d v) s = .next t ∧ t.flags = flagsOfSum (s.get16 d) v) ∧
      (∀ d v, ∃ t, exec (.addR8Imm d v) s = .next t ∧ t.flags = flagsOfSum (s.get8 d) v) ∧
      (∀ d r, ∃ t, exec (.adcR16R16 d r) s = .next t ∧ FlagsOfFoldedSum (s.get16 d) (s.get16 r) s.flags.cf t.flags) ∧
      (∀ d r, ∃ t, exec (.adcR8R8 d r) s = .next t ∧ FlagsOfFoldedSum (s.get8 d) (s.get8 r) s.flags.cf t.flags) ∧
      (∀ d v, ∃ t, exec (.adcR16Imm d v) s = .next t ∧ FlagsOfFoldedSum (s.get16 d) v s.flags.cf t.flags) ∧
      (∀ d v, ∃ t, exec (.adcR8Imm d v) s = .next t ∧ FlagsOfFoldedSum (s.get8 d) v s.flags.cf t.flags)

/-- The flag rule of SUB, SBB and CMP in plain integer arithmetic, and that all three execute by it: SUB and CMP with their two
operands, SBB with a folded one, which is the source plus CF. That the fold is not truncated first is D15 (log entry 10) and is
not said here. -/
def Obligations.FlagsSubRule : Prop :=
  (∀ w, w = 8 ∨ w = 16 → ∀ dest src result : Int, flagsSub w dest src result =
    { cf := decide (dest < src)
      zf := decide (result % 2 ^ w = 0)
      sf := decide (2 ^ (w - 1) ≤ result % 2 ^ w)
      of := decide (2 ^ (w - 1) ≤ dest % 2 ^ w) != decide (2 ^ (w - 1) ≤ src % 2 ^ w) &&
        decide (2 ^ (w - 1) ≤ src % 2 ^ w) == decide (2 ^ (w - 1) ≤ result % 2 ^ w) }) ∧
  ∀ s : State,
      (∀ d r, ∃ t, exec (.subR16R16 d r) s = .next t ∧ t.flags = flagsOfDifference (s.get16 d) (s.get16 r)) ∧
      (∀ d r, ∃ t, exec (.subR8R8 d r) s = .next t ∧ t.flags = flagsOfDifference (s.get8 d) (s.get8 r)) ∧
      (∀ d v, ∃ t, exec (.subR16Imm d v) s = .next t ∧ t.flags = flagsOfDifference (s.get16 d) v) ∧
      (∀ d v, ∃ t, exec (.subR8Imm d v) s = .next t ∧ t.flags = flagsOfDifference (s.get8 d) v) ∧
      (∀ d r, ∃ t, exec (.cmpR16R16 d r) s = .next t ∧ t.flags = flagsOfDifference (s.get16 d) (s.get16 r)) ∧
      (∀ d r, ∃ t, exec (.cmpR8R8 d r) s = .next t ∧ t.flags = flagsOfDifference (s.get8 d) (s.get8 r)) ∧
      (∀ d v, ∃ t, exec (.cmpR16Imm d v) s = .next t ∧ t.flags = flagsOfDifference (s.get16 d) v) ∧
      (∀ d v, ∃ t, exec (.cmpR8Imm d v) s = .next t ∧ t.flags = flagsOfDifference (s.get8 d) v) ∧
      (∀ d r, ∃ t, exec (.sbbR16R16 d r) s = .next t ∧ FlagsOfFoldedDifference (s.get16 d) (s.get16 r) s.flags.cf t.flags) ∧
      (∀ d r, ∃ t, exec (.sbbR8R8 d r) s = .next t ∧ FlagsOfFoldedDifference (s.get8 d) (s.get8 r) s.flags.cf t.flags) ∧
      (∀ d v, ∃ t, exec (.sbbR16Imm d v) s = .next t ∧ FlagsOfFoldedDifference (s.get16 d) v s.flags.cf t.flags) ∧
      (∀ d v, ∃ t, exec (.sbbR8Imm d v) s = .next t ∧ FlagsOfFoldedDifference (s.get8 d) v s.flags.cf t.flags)

/-- The flag rule of AND, OR, XOR and NOT, and that each executes by it on the value it leaves in its destination. -/
def Obligations.FlagsLogicRule : Prop :=
  (∀ w, w = 8 ∨ w = 16 → ∀ r : BitVec w,
    flagsLogic r = { cf := false, zf := decide (r.toNat = 0), sf := decide (2 ^ (w - 1) ≤ r.toNat), of := false }) ∧
  ∀ s : State,
      (∀ d r, ∃ t, exec (.andR16R16 d r) s = .next t ∧ t.flags = flagsLogic (t.get16 d)) ∧
      (∀ d r, ∃ t, exec (.andR8R8 d r) s = .next t ∧ t.flags = flagsLogic (t.get8 d)) ∧
      (∀ d v, ∃ t, exec (.andR16Imm d v) s = .next t ∧ t.flags = flagsLogic (t.get16 d)) ∧
      (∀ d v, ∃ t, exec (.andR8Imm d v) s = .next t ∧ t.flags = flagsLogic (t.get8 d)) ∧
      (∀ d r, ∃ t, exec (.orR16R16 d r) s = .next t ∧ t.flags = flagsLogic (t.get16 d)) ∧
      (∀ d r, ∃ t, exec (.orR8R8 d r) s = .next t ∧ t.flags = flagsLogic (t.get8 d)) ∧
      (∀ d v, ∃ t, exec (.orR16Imm d v) s = .next t ∧ t.flags = flagsLogic (t.get16 d)) ∧
      (∀ d v, ∃ t, exec (.orR8Imm d v) s = .next t ∧ t.flags = flagsLogic (t.get8 d)) ∧
      (∀ d r, ∃ t, exec (.xorR16R16 d r) s = .next t ∧ t.flags = flagsLogic (t.get16 d)) ∧
      (∀ d r, ∃ t, exec (.xorR8R8 d r) s = .next t ∧ t.flags = flagsLogic (t.get8 d)) ∧
      (∀ d v, ∃ t, exec (.xorR16Imm d v) s = .next t ∧ t.flags = flagsLogic (t.get16 d)) ∧
      (∀ d v, ∃ t, exec (.xorR8Imm d v) s = .next t ∧ t.flags = flagsLogic (t.get8 d)) ∧
      (∀ d, ∃ t, exec (.notR16 d) s = .next t ∧ t.flags = flagsLogic (t.get16 d)) ∧
      (∀ d, ∃ t, exec (.notR8 d) s = .next t ∧ t.flags = flagsLogic (t.get8 d))

/-- ADD, four forms: the sum, unsigned overflow in CF, signed overflow in OF. That ADD adds is G2 (log entry 17). -/
def Obligations.AddResult : Prop :=
  ∀ s : State,
    (∀ d r, ∃ t, exec (.addR16R16 d r) s = .next t ∧ Result16 s t d (addRef (s.get16 d) (s.get16 r)) 3) ∧
    (∀ d r, ∃ t, exec (.addR8R8 d r) s = .next t ∧ Result8 s t d (addRef (s.get8 d) (s.get8 r)) 3) ∧
    (∀ d v, ∃ t, exec (.addR16Imm d v) s = .next t ∧ Result16 s t d (addRef (s.get16 d) v) 4) ∧
    (∀ d v, ∃ t, exec (.addR8Imm d v) s = .next t ∧ Result8 s t d (addRef (s.get8 d) v) 3)

/-- ADC, four forms: the true sum and carry of the three numbers; OF is signed overflow but for the folded operand
`2^(w-1) - 1` with CF set, where it is the inverse (D15, log entry 10). That ADC adds is G2 (log entry 17). -/
def Obligations.AdcResult : Prop :=
  ∀ s : State,
    (∀ d r, ∃ t, exec (.adcR16R16 d r) s = .next t ∧ Result16 s t d (adcRef (s.get16 d) (s.get16 r) s.flags.cf) 3) ∧
    (∀ d r, ∃ t, exec (.adcR8R8 d r) s = .next t ∧ Result8 s t d (adcRef (s.get8 d) (s.get8 r) s.flags.cf) 3) ∧
    (∀ d v, ∃ t, exec (.adcR16Imm d v) s = .next t ∧ Result16 s t d (adcRef (s.get16 d) v s.flags.cf) 4) ∧
    (∀ d v, ∃ t, exec (.adcR8Imm d v) s = .next t ∧ Result8 s t d (adcRef (s.get8 d) v s.flags.cf) 3)

/-- SUB, four forms: the difference, the borrow in CF, signed overflow in OF. That SUB takes the second operand from the first is
G2 (log entry 17). -/
def Obligations.SubResult : Prop :=
  ∀ s : State,
    (∀ d r, ∃ t, exec (.subR16R16 d r) s = .next t ∧ Result16 s t d (subRef (s.get16 d) (s.get16 r)) 3) ∧
    (∀ d r, ∃ t, exec (.subR8R8 d r) s = .next t ∧ Result8 s t d (subRef (s.get8 d) (s.get8 r)) 3) ∧
    (∀ d v, ∃ t, exec (.subR16Imm d v) s = .next t ∧ Result16 s t d (subRef (s.get16 d) v) 4) ∧
    (∀ d v, ∃ t, exec (.subR8Imm d v) s = .next t ∧ Result8 s t d (subRef (s.get8 d) v) 3)

/-- SBB, four forms: the true difference and borrow of the three numbers; OF as for ADC (D15, log entry 10). That SBB
takes the second operand from the first is G2 (log entry 17). -/
def Obligations.SbbResult : Prop :=
  ∀ s : State,
    (∀ d r, ∃ t, exec (.sbbR16R16 d r) s = .next t ∧ Result16 s t d (sbbRef (s.get16 d) (s.get16 r) s.flags.cf) 3) ∧
    (∀ d r, ∃ t, exec (.sbbR8R8 d r) s = .next t ∧ Result8 s t d (sbbRef (s.get8 d) (s.get8 r) s.flags.cf) 3) ∧
    (∀ d v, ∃ t, exec (.sbbR16Imm d v) s = .next t ∧ Result16 s t d (sbbRef (s.get16 d) v s.flags.cf) 4) ∧
    (∀ d v, ∃ t, exec (.sbbR8Imm d v) s = .next t ∧ Result8 s t d (sbbRef (s.get8 d) v s.flags.cf) 3)

/-- CMP, four forms: the flags of SUB and no register (that it discards the difference is G2, log entry 17). -/
def Obligations.CmpResult : Prop :=
  ∀ s : State,
    (∀ d r, ∃ t, exec (.cmpR16R16 d r) s = .next t ∧ OnlyFlags s t (subRef (s.get16 d) (s.get16 r)).2 3) ∧
    (∀ d r, ∃ t, exec (.cmpR8R8 d r) s = .next t ∧ OnlyFlags s t (subRef (s.get8 d) (s.get8 r)).2 3) ∧
    (∀ d v, ∃ t, exec (.cmpR16Imm d v) s = .next t ∧ OnlyFlags s t (subRef (s.get16 d) v).2 4) ∧
    (∀ d v, ∃ t, exec (.cmpR8Imm d v) s = .next t ∧ OnlyFlags s t (subRef (s.get8 d) v).2 3)

/-- After `CMP a,b`: ZF is `a = b`, CF is `a < b` unsigned, and `a < b` signed is `SF != OF`. That CMP subtracts is G2 (log entry 17). -/
def Obligations.CmpOrdersItsOperands : Prop :=
  ∀ s : State,
    (∀ d r, ∃ t, exec (.cmpR16R16 d r) s = .next t ∧ t.flags.zf = decide (s.get16 d = s.get16 r) ∧
      t.flags.cf = (s.get16 d).ult (s.get16 r) ∧ (t.flags.sf != t.flags.of) = (s.get16 d).slt (s.get16 r)) ∧
    (∀ d r, ∃ t, exec (.cmpR8R8 d r) s = .next t ∧ t.flags.zf = decide (s.get8 d = s.get8 r) ∧
      t.flags.cf = (s.get8 d).ult (s.get8 r) ∧ (t.flags.sf != t.flags.of) = (s.get8 d).slt (s.get8 r)) ∧
    (∀ d v, ∃ t, exec (.cmpR16Imm d v) s = .next t ∧ t.flags.zf = decide (s.get16 d = v) ∧
      t.flags.cf = (s.get16 d).ult v ∧ (t.flags.sf != t.flags.of) = (s.get16 d).slt v) ∧
    (∀ d v, ∃ t, exec (.cmpR8Imm d v) s = .next t ∧ t.flags.zf = decide (s.get8 d = v) ∧
      t.flags.cf = (s.get8 d).ult v ∧ (t.flags.sf != t.flags.of) = (s.get8 d).slt v)

/-- INC and DEC, both widths: OF is signed overflow; CF is kept (D16, log entry 11). -/
def Obligations.IncDecResult : Prop :=
  ∀ s : State,
    (∀ d, ∃ t, exec (.incR16 d) s = .next t ∧ Result16 s t d (incRef (s.get16 d) s.flags) 2) ∧
    (∀ d, ∃ t, exec (.incR8 d) s = .next t ∧ Result8 s t d (incRef (s.get8 d) s.flags) 2) ∧
    (∀ d, ∃ t, exec (.decR16 d) s = .next t ∧ Result16 s t d (decRef (s.get16 d) s.flags) 2) ∧
    (∀ d, ∃ t, exec (.decR8 d) s = .next t ∧ Result8 s t d (decRef (s.get8 d) s.flags) 2)

/-! ## Logic. That each computes the function of its name is G2 (log entry 17). -/

/-- AND, OR and XOR, four forms each, and NOT in both widths: CF and OF cleared, ZF and SF of the result. -/
def Obligations.LogicResult : Prop :=
  ∀ s : State,
    (∀ d r, ∃ t, exec (.andR16R16 d r) s = .next t ∧ Result16 s t d (logicRef (s.get16 d &&& s.get16 r)) 3) ∧
    (∀ d r, ∃ t, exec (.andR8R8 d r) s = .next t ∧ Result8 s t d (logicRef (s.get8 d &&& s.get8 r)) 3) ∧
    (∀ d v, ∃ t, exec (.andR16Imm d v) s = .next t ∧ Result16 s t d (logicRef (s.get16 d &&& v)) 4) ∧
    (∀ d v, ∃ t, exec (.andR8Imm d v) s = .next t ∧ Result8 s t d (logicRef (s.get8 d &&& v)) 3) ∧
    (∀ d r, ∃ t, exec (.orR16R16 d r) s = .next t ∧ Result16 s t d (logicRef (s.get16 d ||| s.get16 r)) 3) ∧
    (∀ d r, ∃ t, exec (.orR8R8 d r) s = .next t ∧ Result8 s t d (logicRef (s.get8 d ||| s.get8 r)) 3) ∧
    (∀ d v, ∃ t, exec (.orR16Imm d v) s = .next t ∧ Result16 s t d (logicRef (s.get16 d ||| v)) 4) ∧
    (∀ d v, ∃ t, exec (.orR8Imm d v) s = .next t ∧ Result8 s t d (logicRef (s.get8 d ||| v)) 3) ∧
    (∀ d r, ∃ t, exec (.xorR16R16 d r) s = .next t ∧ Result16 s t d (logicRef (s.get16 d ^^^ s.get16 r)) 3) ∧
    (∀ d r, ∃ t, exec (.xorR8R8 d r) s = .next t ∧ Result8 s t d (logicRef (s.get8 d ^^^ s.get8 r)) 3) ∧
    (∀ d v, ∃ t, exec (.xorR16Imm d v) s = .next t ∧ Result16 s t d (logicRef (s.get16 d ^^^ v)) 4) ∧
    (∀ d v, ∃ t, exec (.xorR8Imm d v) s = .next t ∧ Result8 s t d (logicRef (s.get8 d ^^^ v)) 3) ∧
    (∀ d, ∃ t, exec (.notR16 d) s = .next t ∧ Result16 s t d (logicRef (~~~ s.get16 d)) 2) ∧
    (∀ d, ∃ t, exec (.notR8 d) s = .next t ∧ Result8 s t d (logicRef (~~~ s.get8 d)) 2)

/-! ## Shifts and rotates: the loop of single-bit iterations against a closed form

Directions and fills are G3, the Overflow formulas G4 (log entry 17); the count is used unmasked (D17), OF is gated (D18) and
the shifts write ZF and SF (D19): log entry 12. -/

/-- SHL by an immediate or by CL, both widths. -/
def Obligations.ShlResult : Prop :=
  ∀ s : State,
    (∀ d n, ∃ t, exec (.shlR16Imm d n) s = .next t ∧ Result16 s t d (shlRef n.toNat (s.get16 d) s.flags) 3) ∧
    (∀ d, ∃ t, exec (.shlR16Cl d) s = .next t ∧ Result16 s t d (shlRef (s.get8 .cl).toNat (s.get16 d) s.flags) 3) ∧
    (∀ d n, ∃ t, exec (.shlR8Imm d n) s = .next t ∧ Result8 s t d (shlRef n.toNat (s.get8 d) s.flags) 3) ∧
    (∀ d, ∃ t, exec (.shlR8Cl d) s = .next t ∧ Result8 s t d (shlRef (s.get8 .cl).toNat (s.get8 d) s.flags) 3)

/-- SHR by an immediate or by CL, both widths. -/
def Obligations.ShrResult : Prop :=
  ∀ s : State,
    (∀ d n, ∃ t, exec (.shrR16Imm d n) s = .next t ∧ Result16 s t d (shrRef n.toNat (s.get16 d) s.flags) 3) ∧
    (∀ d, ∃ t, exec (.shrR16Cl d) s = .next t ∧ Result16 s t d (shrRef (s.get8 .cl).toNat (s.get16 d) s.flags) 3) ∧
    (∀ d n, ∃ t, exec (.shrR8Imm d n) s = .next t ∧ Result8 s t d (shrRef n.toNat (s.get8 d) s.flags) 3) ∧
    (∀ d, ∃ t, exec (.shrR8Cl d) s = .next t ∧ Result8 s t d (shrRef (s.get8 .cl).toNat (s.get8 d) s.flags) 3)

/-- SAR by an immediate or by CL, both widths: OF is cleared by every count but 0. -/
def Obligations.SarResult : Prop :=
  ∀ s : State,
    (∀ d n, ∃ t, exec (.sarR16Imm d n) s = .next t ∧ Result16 s t d (sarRef n.toNat (s.get16 d) s.flags) 3) ∧
    (∀ d, ∃ t, exec (.sarR16Cl d) s = .next t ∧ Result16 s t d (sarRef (s.get8 .cl).toNat (s.get16 d) s.flags) 3) ∧
    (∀ d n, ∃ t, exec (.sarR8Imm d n) s = .next t ∧ Result8 s t d (sarRef n.toNat (s.get8 d) s.flags) 3) ∧
    (∀ d, ∃ t, exec (.sarR8Cl d) s = .next t ∧ Result8 s t d (sarRef (s.get8 .cl).toNat (s.get8 d) s.flags) 3)

/-- ROL by an immediate or by CL, both widths. -/
def Obligations.RolResult : Prop :=
  ∀ s : State,
    (∀ d n, ∃ t, exec (.rolR16Imm d n) s = .next t ∧ Result16 s t d (rolRef false n.toNat (s.get16 d) s.flags) 3) ∧
    (∀ d, ∃ t, exec (.rolR16Cl d) s = .next t ∧ Result16 s t d (rolRef true (s.get8 .cl).toNat (s.get16 d) s.flags) 3) ∧
    (∀ d n, ∃ t, exec (.rolR8Imm d n) s = .next t ∧ Result8 s t d (rolRef false n.toNat (s.get8 d) s.flags) 3) ∧
    (∀ d, ∃ t, exec (.rolR8Cl d) s = .next t ∧ Result8 s t d (rolRef true (s.get8 .cl).toNat (s.get8 d) s.flags) 3)

/-- ROR by an immediate or by CL, both widths. -/
def Obligations.RorResult : Prop :=
  ∀ s : State,
    (∀ d n, ∃ t, exec (.rorR16Imm d n) s = .next t ∧ Result16 s t d (rorRef false n.toNat (s.get16 d) s.flags) 3) ∧
    (∀ d, ∃ t, exec (.rorR16Cl d) s = .next t ∧ Result16 s t d (rorRef true (s.get8 .cl).toNat (s.get16 d) s.flags) 3) ∧
    (∀ d n, ∃ t, exec (.rorR8Imm d n) s = .next t ∧ Result8 s t d (rorRef false n.toNat (s.get8 d) s.flags) 3) ∧
    (∀ d, ∃ t, exec (.rorR8Cl d) s = .next t ∧ Result8 s t d (rorRef true (s.get8 .cl).toNat (s.get8 d) s.flags) 3)

/-- RCL by an immediate or by CL, both widths: register and CF turn left as one ring of `w + 1` bits. -/
def Obligations.RclResult : Prop :=
  ∀ s : State,
    (∀ d n, ∃ t, exec (.rclR16Imm d n) s = .next t ∧ Result16 s t d (rclRef false n.toNat (s.get16 d) s.flags) 3) ∧
    (∀ d, ∃ t, exec (.rclR16Cl d) s = .next t ∧ Result16 s t d (rclRef true (s.get8 .cl).toNat (s.get16 d) s.flags) 3) ∧
    (∀ d n, ∃ t, exec (.rclR8Imm d n) s = .next t ∧ Result8 s t d (rclRef false n.toNat (s.get8 d) s.flags) 3) ∧
    (∀ d, ∃ t, exec (.rclR8Cl d) s = .next t ∧ Result8 s t d (rclRef true (s.get8 .cl).toNat (s.get8 d) s.flags) 3)

/-- RCR by an immediate or by CL, both widths: register and CF turn right as one ring of `w + 1` bits. -/
def Obligations.RcrResult : Prop :=
  ∀ s : State,
    (∀ d n, ∃ t, exec (.rcrR16Imm d n) s = .next t ∧ Result16 s t d (rcrRef false n.toNat (s.get16 d) s.flags) 3) ∧
    (∀ d, ∃ t, exec (.rcrR16Cl d) s = .next t ∧ Result16 s t d (rcrRef true (s.get8 .cl).toNat (s.get16 d) s.flags) 3) ∧
    (∀ d n, ∃ t, exec (.rcrR8Imm d n) s = .next t ∧ Result8 s t d (rcrRef false n.toNat (s.get8 d) s.flags) 3) ∧
    (∀ d, ∃ t, exec (.rcrR8Cl d) s = .next t ∧ Result8 s t d (rcrRef true (s.get8 .cl).toNat (s.get8 d) s.flags) 3)

/-- A shift or rotate by 0 changes nothing but IP, in all 28 variants. -/
def Obligations.ShiftByZeroChangesOnlyIp : Prop :=
  ∀ s : State,
    (∀ mk ∈ ([.shlR16Imm, .shrR16Imm, .sarR16Imm, .rolR16Imm, .rorR16Imm, .rclR16Imm, .rcrR16Imm] : List (Reg16 → Byte → Instr)),
      ∀ d, exec (mk d 0) s = .next { s with ip := s.ip + 3 }) ∧
    (∀ mk ∈ ([.shlR8Imm, .shrR8Imm, .sarR8Imm, .rolR8Imm, .rorR8Imm, .rclR8Imm, .rcrR8Imm] : List (Reg8 → Byte → Instr)),
      ∀ d, exec (mk d 0) s = .next { s with ip := s.ip + 3 }) ∧
    (s.get8 .cl = 0 →
      (∀ mk ∈ ([.shlR16Cl, .shrR16Cl, .sarR16Cl, .rolR16Cl, .rorR16Cl, .rclR16Cl, .rcrR16Cl] : List (Reg16 → Instr)),
        ∀ d, exec (mk d) s = .next { s with ip := s.ip + 3 }) ∧
      (∀ mk ∈ ([.shlR8Cl, .shrR8Cl, .sarR8Cl, .rolR8Cl, .rorR8Cl, .rclR8Cl, .rcrR8Cl] : List (Reg8 → Instr)),
        ∀ d, exec (mk d) s = .next { s with ip := s.ip + 3 }))

/-! ## Control transfer and the stack -/

/-- JMP and the eight branches: each tests one flag, and nothing but IP changes. A branch not taken goes on at IP + 3 (D30,
log entry 18). -/
def Obligations.BranchResult : Prop :=
  ∀ (s : State) (target : Addr),
    (∃ t, exec (.jmp target) s = .next t ∧ OnlyIp s t target) ∧
    (∃ t, exec (.jz target) s = .next t ∧ OnlyIp s t (if s.flags.zf = true then target else s.ip + 3)) ∧
    (∃ t, exec (.jnz target) s = .next t ∧ OnlyIp s t (if s.flags.zf = false then target else s.ip + 3)) ∧
    (∃ t, exec (.jc target) s = .next t ∧ OnlyIp s t (if s.flags.cf = true then target else s.ip + 3)) ∧
    (∃ t, exec (.jnc target) s = .next t ∧ OnlyIp s t (if s.flags.cf = false then target else s.ip + 3)) ∧
    (∃ t, exec (.js target) s = .next t ∧ OnlyIp s t (if s.flags.sf = true then target else s.ip + 3)) ∧
    (∃ t, exec (.jns target) s = .next t ∧ OnlyIp s t (if s.flags.sf = false then target else s.ip + 3)) ∧
    (∃ t, exec (.jo target) s = .next t ∧ OnlyIp s t (if s.flags.of = true then target else s.ip + 3)) ∧
    (∃ t, exec (.jno target) s = .next t ∧ OnlyIp s t (if s.flags.of = false then target else s.ip + 3))

/-- CALL pushes IP + 3 and jumps; RET pops an address and jumps to it; RET straight after CALL comes back behind the CALL with
every register as it was. A word at 0xFFFF wraps (D10, log entry 5). -/
def Obligations.CallAndRetResult : Prop :=
  ∀ s : State,
    (∀ target, ∃ t, exec (.call target) s = .next t ∧ t.ip = target ∧ t.get16 .sp = s.get16 .sp - 2 ∧
      (∀ r, r ≠ .sp → t.get16 r = s.get16 r) ∧ t.flags = s.flags ∧ t.rs = s.rs ∧
      t.mem8 (s.get16 .sp - 2) = BitVec.ofNat 8 (s.ip + 3).toNat ∧
      t.mem8 (s.get16 .sp - 1) = BitVec.ofNat 8 ((s.ip + 3).toNat / 256) ∧
      (∀ a, a ≠ s.get16 .sp - 2 → a ≠ s.get16 .sp - 1 → t.mem8 a = s.mem8 a)) ∧
    (∃ t, exec .ret s = .next t ∧
      t.ip.toNat = (s.mem8 (s.get16 .sp)).toNat + 256 * (s.mem8 (s.get16 .sp + 1)).toNat ∧
      t.get16 .sp = s.get16 .sp + 2 ∧ (∀ r, r ≠ .sp → t.get16 r = s.get16 r) ∧ t.flags = s.flags ∧ t.rs = s.rs ∧
      (∀ a, t.mem8 a = s.mem8 a)) ∧
    (∀ target, ∃ t u, exec (.call target) s = .next t ∧ exec .ret t = .next u ∧ u.ip = s.ip + 3 ∧
      ∀ r, u.get16 r = s.get16 r)

/-- PUSH: SP first, then the register at the new top; PUSH SP stores the decremented value (D21, log entry 14). POP: the word at
the top, then SP + 2; POP SP leaves the popped value plus 2 (D21). -/
def Obligations.PushAndPopResult : Prop :=
  ∀ s : State,
    (∀ r, ∃ t, exec (.pushR16 r) s = .next t ∧ t.get16 .sp = s.get16 .sp - 2 ∧
      (∀ q, q ≠ .sp → t.get16 q = s.get16 q) ∧ t.flags = s.flags ∧ t.rs = s.rs ∧ t.ip = s.ip + 2 ∧
      t.mem8 (s.get16 .sp - 2) = BitVec.ofNat 8 (if r = .sp then s.get16 .sp - 2 else s.get16 r).toNat ∧
      t.mem8 (s.get16 .sp - 1) = BitVec.ofNat 8 ((if r = .sp then s.get16 .sp - 2 else s.get16 r).toNat / 256) ∧
      (∀ a, a ≠ s.get16 .sp - 2 → a ≠ s.get16 .sp - 1 → t.mem8 a = s.mem8 a)) ∧
    (∀ d, ∃ t, exec (.popR16 d) s = .next t ∧
      (d ≠ .sp → t.get16 d = BitVec.ofNat 16 ((s.mem8 (s.get16 .sp)).toNat + 256 * (s.mem8 (s.get16 .sp + 1)).toNat) ∧
        t.get16 .sp = s.get16 .sp + 2) ∧
      (d = .sp → t.get16 .sp =
        BitVec.ofNat 16 ((s.mem8 (s.get16 .sp)).toNat + 256 * (s.mem8 (s.get16 .sp + 1)).toNat) + 2) ∧
      (∀ q, q ≠ d → q ≠ .sp → t.get16 q = s.get16 q) ∧ t.flags = s.flags ∧ t.rs = s.rs ∧ t.ip = s.ip + 2 ∧
      (∀ a, t.mem8 a = s.mem8 a))

/-- PUSH R1 then POP R2 leaves R2 equal to the original R1 and SP as it was, for any two registers but SP; with SP among them
the result is as D21 has it (log entry 14). -/
def Obligations.PushThenPopMovesTheValue : Prop :=
  ∀ (s : State) (r1 r2 : Reg16), ∃ t u, exec (.pushR16 r1) s = .next t ∧ exec (.popR16 r2) t = .next u ∧
    u.ip = s.ip + 4 ∧ u.flags = s.flags ∧ u.rs = s.rs ∧ (∀ q, q ≠ r2 → q ≠ .sp → u.get16 q = s.get16 q) ∧
    (r2 ≠ .sp → u.get16 .sp = s.get16 .sp ∧ u.get16 r2 = if r1 = .sp then s.get16 .sp - 2 else s.get16 r1) ∧
    (r2 = .sp → u.get16 .sp = if r1 = .sp then s.get16 .sp else s.get16 r1 + 2)

/-- HALT: RS becomes Halted, IP moves past it (D13, log entry 8), nothing else changes, and the step reports halt. -/
def Obligations.HaltResult : Prop :=
  ∀ s : State, ∃ t, exec .halt s = .next t ∧ t.rs = .halted ∧ t.rs.report = .halt ∧ t.ip = s.ip + 1 ∧
    (∀ r, t.get16 r = s.get16 r) ∧ t.flags = s.flags ∧ ∀ a, t.mem8 a = s.mem8 a
end

