-- ==== Sys2Proof/Laws/State.lean ====
section
/-! SUPPORT. One lemma per field for each operation that updates the state, true by unfolding, so that no later proof opens a
record update. -/

namespace Sys2Proof.Machine

/-! The operations that hold a parameter of Config, at its default. -/

/-- All that `IP_WRAP` does: the sum of 16-bit addresses. -/
@[simp] theorem instrAddr_eq (ip : Addr) (k : Nat) : instrAddr ip k = ip + BitVec.ofNat 16 k := by
  apply BitVec.eq_of_toNat_eq; simp [instrAddr]

theorem fetch8_eq (s : State) (k : Nat) : s.fetch8 k = s.mem8 (s.ip + BitVec.ofNat 16 k) := by
  rw [State.fetch8, instrAddr_eq]

@[simp] theorem readSecond_eq (s : State) (a : Addr) : s.readSecond a = s.mem8 (secondByteAddr a) := rfl
@[simp] theorem writeSecond_eq (s : State) (a : Addr) (v : Byte) : s.writeSecond a v = s.setMem8 (secondByteAddr a) v := rfl

/-- All that the mask of the count does: nothing. -/
theorem count_eq (s : State) (c : CountSrc) : s.count c = (s.countByte c).toNat :=
  congrArg BitVec.toNat (BitVec.and_allOnes (x := s.countByte c))
@[simp] theorem count_imm (s : State) (n : Byte) : s.count (.imm n) = n.toNat := count_eq s (.imm n)
@[simp] theorem count_cl (s : State) : s.count .cl = (s.get8 .cl).toNat := count_eq s .cl

@[simp] theorem setIp_regs (s : State) (t : Addr) : (s.setIp t).regs = s.regs := rfl
@[simp] theorem setIp_ip (s : State) (t : Addr) : (s.setIp t).ip = t := rfl
@[simp] theorem setIp_flags (s : State) (t : Addr) : (s.setIp t).flags = s.flags := rfl
@[simp] theorem setIp_mem (s : State) (t : Addr) : (s.setIp t).mem = s.mem := rfl
@[simp] theorem setIp_rs (s : State) (t : Addr) : (s.setIp t).rs = s.rs := rfl

@[simp] theorem advance_regs (s : State) (n : Nat) : (s.advance n).regs = s.regs := rfl
@[simp] theorem advance_ip (s : State) (n : Nat) : (s.advance n).ip = s.ip + BitVec.ofNat 16 n := instrAddr_eq s.ip n
@[simp] theorem advance_flags (s : State) (n : Nat) : (s.advance n).flags = s.flags := rfl
@[simp] theorem advance_mem (s : State) (n : Nat) : (s.advance n).mem = s.mem := rfl
@[simp] theorem advance_rs (s : State) (n : Nat) : (s.advance n).rs = s.rs := rfl

@[simp] theorem setFlags_regs (s : State) (f : Flags) : (s.setFlags f).regs = s.regs := rfl
@[simp] theorem setFlags_ip (s : State) (f : Flags) : (s.setFlags f).ip = s.ip := rfl
@[simp] theorem setFlags_flags (s : State) (f : Flags) : (s.setFlags f).flags = f := rfl
@[simp] theorem setFlags_mem (s : State) (f : Flags) : (s.setFlags f).mem = s.mem := rfl
@[simp] theorem setFlags_rs (s : State) (f : Flags) : (s.setFlags f).rs = s.rs := rfl

@[simp] theorem set16_regs (s : State) (r : Reg16) (v : Word) : (s.set16 r v).regs = s.regs.set r v := rfl
@[simp] theorem set16_ip (s : State) (r : Reg16) (v : Word) : (s.set16 r v).ip = s.ip := rfl
@[simp] theorem set16_flags (s : State) (r : Reg16) (v : Word) : (s.set16 r v).flags = s.flags := rfl
@[simp] theorem set16_mem (s : State) (r : Reg16) (v : Word) : (s.set16 r v).mem = s.mem := rfl
@[simp] theorem set16_rs (s : State) (r : Reg16) (v : Word) : (s.set16 r v).rs = s.rs := rfl

@[simp] theorem setMem8_regs (s : State) (a : Addr) (v : Byte) : (s.setMem8 a v).regs = s.regs := rfl
@[simp] theorem setMem8_ip (s : State) (a : Addr) (v : Byte) : (s.setMem8 a v).ip = s.ip := rfl
@[simp] theorem setMem8_flags (s : State) (a : Addr) (v : Byte) : (s.setMem8 a v).flags = s.flags := rfl
@[simp] theorem setMem8_mem (s : State) (a : Addr) (v : Byte) : (s.setMem8 a v).mem = s.mem.write a.toNat v := rfl
@[simp] theorem setMem8_rs (s : State) (a : Addr) (v : Byte) : (s.setMem8 a v).rs = s.rs := rfl

@[simp] theorem raise_regs (s : State) (r : FaultReason) : (s.raise r).regs = s.regs := rfl
@[simp] theorem raise_ip (s : State) (r : FaultReason) : (s.raise r).ip = s.ip := rfl
@[simp] theorem raise_flags (s : State) (r : FaultReason) : (s.raise r).flags = s.flags := rfl
@[simp] theorem raise_mem (s : State) (r : FaultReason) : (s.raise r).mem = s.mem := rfl
@[simp] theorem raise_rs (s : State) (r : FaultReason) : (s.raise r).rs = .faulted r := rfl

@[simp] theorem takeFault_regs (s : State) (e : DecodeFault) : (s.takeFault e).regs = s.regs := rfl
@[simp] theorem takeFault_ip (s : State) (e : DecodeFault) : (s.takeFault e).ip = s.ip := rfl
@[simp] theorem takeFault_flags (s : State) (e : DecodeFault) : (s.takeFault e).flags = s.flags := rfl
@[simp] theorem takeFault_mem (s : State) (e : DecodeFault) : (s.takeFault e).mem = s.mem := rfl
@[simp] theorem takeFault_rs (s : State) (e : DecodeFault) : (s.takeFault e).rs = .faulted (s.reasonOf e) := rfl

/-! The operations that hold a choice or a second write, by the fields they leave alone. -/

@[simp] theorem set8_ip (s : State) (r : Reg8) (v : Byte) : (s.set8 r v).ip = s.ip := rfl
@[simp] theorem set8_flags (s : State) (r : Reg8) (v : Byte) : (s.set8 r v).flags = s.flags := rfl
@[simp] theorem set8_mem (s : State) (r : Reg8) (v : Byte) : (s.set8 r v).mem = s.mem := rfl
@[simp] theorem set8_rs (s : State) (r : Reg8) (v : Byte) : (s.set8 r v).rs = s.rs := rfl

@[simp] theorem setMem16_regs (s : State) (a : Addr) (v : Word) : (s.setMem16 a v).regs = s.regs := rfl
@[simp] theorem setMem16_ip (s : State) (a : Addr) (v : Word) : (s.setMem16 a v).ip = s.ip := rfl
@[simp] theorem setMem16_flags (s : State) (a : Addr) (v : Word) : (s.setMem16 a v).flags = s.flags := rfl
@[simp] theorem setMem16_rs (s : State) (a : Addr) (v : Word) : (s.setMem16 a v).rs = s.rs := rfl

@[simp] theorem decSp_ip (s : State) : s.decSp.ip = s.ip := rfl
@[simp] theorem decSp_flags (s : State) : s.decSp.flags = s.flags := rfl
@[simp] theorem decSp_mem (s : State) : s.decSp.mem = s.mem := rfl
@[simp] theorem decSp_rs (s : State) : s.decSp.rs = s.rs := rfl
@[simp] theorem incSp_ip (s : State) : s.incSp.ip = s.ip := rfl
@[simp] theorem incSp_flags (s : State) : s.incSp.flags = s.flags := rfl
@[simp] theorem incSp_mem (s : State) : s.incSp.mem = s.mem := rfl
@[simp] theorem incSp_rs (s : State) : s.incSp.rs = s.rs := rfl
@[simp] theorem storeTop_regs (s : State) (v : Word) : (s.storeTop v).regs = s.regs := rfl
@[simp] theorem storeTop_ip (s : State) (v : Word) : (s.storeTop v).ip = s.ip := rfl
@[simp] theorem storeTop_flags (s : State) (v : Word) : (s.storeTop v).flags = s.flags := rfl
@[simp] theorem storeTop_rs (s : State) (v : Word) : (s.storeTop v).rs = s.rs := rfl

@[simp] theorem writeBack16_ip (s : State) (d : Reg16) (r : Word × Flags) : (s.writeBack16 d r).ip = s.ip := rfl
@[simp] theorem writeBack16_flags (s : State) (d : Reg16) (r : Word × Flags) : (s.writeBack16 d r).flags = r.2 := rfl
@[simp] theorem writeBack16_mem (s : State) (d : Reg16) (r : Word × Flags) : (s.writeBack16 d r).mem = s.mem := rfl
@[simp] theorem writeBack16_rs (s : State) (d : Reg16) (r : Word × Flags) : (s.writeBack16 d r).rs = s.rs := rfl
@[simp] theorem writeBack8_ip (s : State) (d : Reg8) (r : Byte × Flags) : (s.writeBack8 d r).ip = s.ip := rfl
@[simp] theorem writeBack8_flags (s : State) (d : Reg8) (r : Byte × Flags) : (s.writeBack8 d r).flags = r.2 := rfl
@[simp] theorem writeBack8_mem (s : State) (d : Reg8) (r : Byte × Flags) : (s.writeBack8 d r).mem = s.mem := rfl
@[simp] theorem writeBack8_rs (s : State) (d : Reg8) (r : Byte × Flags) : (s.writeBack8 d r).rs = s.rs := rfl

/-- States with the same fields are the same state. -/
theorem state_ext {s t : State} (regs : s.regs = t.regs) (ip : s.ip = t.ip) (flags : s.flags = t.flags)
    (mem : s.mem = t.mem) (rs : s.rs = t.rs) : s = t := by
  cases s; cases t; simp_all

end Sys2Proof.Machine
end

