-- ==== Sys2Proof/Laws/Registers.lean ====
section
/-! SUPPORT. What reading a register or a view gives after each operation (10_state.md R10 to R14). -/

namespace Sys2Proof.Machine

/-! ## The register file -/

@[simp] theorem regs_get_set_same (g : Regs) (r : Reg16) (v : Word) : (g.set r v).get r = v := by
  cases r <;> rfl

theorem regs_get_set_other (g : Regs) {r q : Reg16} (v : Word) (h : q ≠ r) : (g.set r v).get q = g.get q := by
  cases r <;> cases q <;> first | rfl | exact absurd rfl h

@[simp] theorem get16_set16_same (s : State) (r : Reg16) (v : Word) : (s.set16 r v).get16 r = v :=
  regs_get_set_same s.regs r v

theorem get16_set16_other (s : State) {r q : Reg16} (v : Word) (h : q ≠ r) : (s.set16 r v).get16 q = s.get16 q :=
  regs_get_set_other s.regs v h

/-- All that a write of a 16-bit register can do to a read of one. -/
theorem get16_set16 (s : State) (r q : Reg16) (v : Word) : (s.set16 r v).get16 q = if q = r then v else s.get16 q := by
  split
  · next h => rw [h, get16_set16_same]
  · next h => exact get16_set16_other s v h

/-! ## Halves of a word -/

@[simp] theorem loByte_wordOfBytes (lo hi : Byte) : loByte (wordOfBytes lo hi) = lo := by
  exact BitVec.extractLsb'_append_eq_right

@[simp] theorem hiByte_wordOfBytes (lo hi : Byte) : hiByte (wordOfBytes lo hi) = hi := by
  exact BitVec.extractLsb'_append_eq_left

@[simp] theorem wordOfBytes_loByte_hiByte (v : Word) : wordOfBytes (loByte v) (hiByte v) = v := by
  apply BitVec.eq_of_getLsbD_eq
  intro i hi
  simp only [wordOfBytes, hiByte, loByte, BitVec.getLsbD_append, BitVec.getLsbD_extractLsb']
  by_cases h : i < 8
  · simp [h]
  · have : i - 8 < 8 := by omega
    have e : 8 + (i - 8) = i := by omega
    simp [h, this, e]

/-! ## Views -/

@[simp] theorem get8_set8_same (s : State) (r : Reg8) (v : Byte) : (s.set8 r v).get8 r = v := by
  simp only [State.get8, State.set8, get16_set16_same]
  split <;> simp

/-- Two views with the same parent and the same half are one view. -/
theorem view_ext {q r : Reg8} (hp : parentOf q = parentOf r) (hh : isHighView q = isHighView r) : q = r := by
  revert hp hh; cases q <;> cases r <;> decide

theorem get8_set8_other (s : State) {r q : Reg8} (v : Byte) (h : q ≠ r) : (s.set8 r v).get8 q = s.get8 q := by
  by_cases hp : parentOf q = parentOf r
  · have hh : isHighView q ≠ isHighView r := fun e => h (view_ext hp e)
    simp only [State.get8, State.set8, hp, get16_set16_same]
    cases hq : isHighView q <;> cases hr : isHighView r <;> simp_all
  · simp only [State.get8, State.set8, get16_set16_other s _ hp]

theorem get16_set8_other (s : State) {r : Reg8} {q : Reg16} (v : Byte) (h : q ≠ parentOf r) :
    (s.set8 r v).get16 q = s.get16 q := get16_set16_other s _ h

/-! ## Operations that touch no register -/

@[simp] theorem get16_setIp (s : State) (t : Addr) (r : Reg16) : (s.setIp t).get16 r = s.get16 r := rfl
@[simp] theorem get16_advance (s : State) (n : Nat) (r : Reg16) : (s.advance n).get16 r = s.get16 r := rfl
@[simp] theorem get16_setFlags (s : State) (f : Flags) (r : Reg16) : (s.setFlags f).get16 r = s.get16 r := rfl
@[simp] theorem get16_setMem8 (s : State) (a : Addr) (v : Byte) (r : Reg16) : (s.setMem8 a v).get16 r = s.get16 r := rfl
@[simp] theorem get16_setMem16 (s : State) (a : Addr) (v : Word) (r : Reg16) : (s.setMem16 a v).get16 r = s.get16 r := rfl
@[simp] theorem get16_storeTop (s : State) (v : Word) (r : Reg16) : (s.storeTop v).get16 r = s.get16 r := rfl
@[simp] theorem get8_setIp (s : State) (t : Addr) (r : Reg8) : (s.setIp t).get8 r = s.get8 r := rfl
@[simp] theorem get8_advance (s : State) (n : Nat) (r : Reg8) : (s.advance n).get8 r = s.get8 r := rfl
@[simp] theorem get8_setFlags (s : State) (f : Flags) (r : Reg8) : (s.setFlags f).get8 r = s.get8 r := rfl
@[simp] theorem get8_setMem8 (s : State) (a : Addr) (v : Byte) (r : Reg8) : (s.setMem8 a v).get8 r = s.get8 r := rfl
@[simp] theorem get8_setMem16 (s : State) (a : Addr) (v : Word) (r : Reg8) : (s.setMem16 a v).get8 r = s.get8 r := rfl

/-! ## Writing back a result -/

@[simp] theorem get16_writeBack16_same (s : State) (d : Reg16) (r : Word × Flags) : (s.writeBack16 d r).get16 d = r.1 :=
  get16_set16_same s d r.1

theorem get16_writeBack16_other (s : State) {d q : Reg16} (r : Word × Flags) (h : q ≠ d) :
    (s.writeBack16 d r).get16 q = s.get16 q := get16_set16_other s r.1 h

@[simp] theorem get8_writeBack8_same (s : State) (d : Reg8) (r : Byte × Flags) : (s.writeBack8 d r).get8 d = r.1 :=
  get8_set8_same s d r.1

theorem get8_writeBack8_other (s : State) {d q : Reg8} (r : Byte × Flags) (h : q ≠ d) :
    (s.writeBack8 d r).get8 q = s.get8 q := get8_set8_other s r.1 h

theorem get16_writeBack8_other (s : State) {d : Reg8} {q : Reg16} (r : Byte × Flags) (h : q ≠ parentOf d) :
    (s.writeBack8 d r).get16 q = s.get16 q := get16_set16_other s _ h

/-! ## The stack pointer -/

@[simp] theorem get16_decSp_sp (s : State) : s.decSp.get16 .sp = s.get16 .sp - 2 := get16_set16_same s .sp _
@[simp] theorem get16_incSp_sp (s : State) : s.incSp.get16 .sp = s.get16 .sp + 2 := get16_set16_same s .sp _

theorem get16_decSp_other (s : State) {r : Reg16} (h : r ≠ .sp) : s.decSp.get16 r = s.get16 r := get16_set16_other s _ h
theorem get16_incSp_other (s : State) {r : Reg16} (h : r ≠ .sp) : s.incSp.get16 r = s.get16 r := get16_set16_other s _ h

end Sys2Proof.Machine
end

