-- ==== Sys2Proof/Laws/Memory.lean ====
section
/-! SUPPORT. Read after write, and the canonical form every memory operation keeps (20_memory.md R42 to R46). The read laws
hold of every list, canonical or not. -/

namespace Sys2Proof.Machine

/-! ## The list -/

theorem read_erase_same (m : Memory) (a : Nat) : (m.erase a).read a = Config.memInit := by
  induction m with
  | nil => rfl
  | cons c m ih =>
    obtain ⟨k, b⟩ := c
    by_cases h : k = a
    · simpa [Memory.erase, h] using ih
    · simpa [Memory.erase, Memory.read, h] using ih

theorem read_erase_other (m : Memory) {a c : Nat} (h : c ≠ a) : (m.erase a).read c = m.read c := by
  induction m with
  | nil => rfl
  | cons e m ih =>
    obtain ⟨k, b⟩ := e
    by_cases hk : k = a
    · have : k ≠ c := fun e => h (e ▸ hk)
      simpa [Memory.erase, Memory.read, hk, h.symm] using ih
    · by_cases hc : k = c
      · simp [Memory.erase, Memory.read, hc, h]
      · simpa [Memory.erase, Memory.read, hk, hc] using ih

theorem read_insert_other (m : Memory) {a c : Nat} (v : Byte) (h : c ≠ a) : (m.insert a v).read c = m.read c := by
  induction m with
  | nil => simp [Memory.insert, Memory.read, h.symm]
  | cons e m ih =>
    obtain ⟨k, b⟩ := e
    simp only [Memory.insert]
    split
    · simp [Memory.read, h.symm]
    · simp only [Memory.read, ih]

theorem read_insert_same (m : Memory) (a : Nat) (v : Byte) (h : ∀ e ∈ m, e.1 ≠ a) : (m.insert a v).read a = v := by
  induction m with
  | nil => simp [Memory.insert, Memory.read]
  | cons e m ih =>
    obtain ⟨k, b⟩ := e
    have hk : k ≠ a := h (k, b) (by simp)
    have hm : ∀ e ∈ m, e.1 ≠ a := fun e he => h e (by simp [he])
    simp only [Memory.insert]
    split
    · simp [Memory.read]
    · simp only [Memory.read, if_neg hk, ih hm]

theorem erase_without (m : Memory) (a : Nat) : ∀ e ∈ m.erase a, e.1 ≠ a := by
  intro e he
  simpa using (List.mem_filter.mp he).2

theorem read_write_same (m : Memory) (a : Nat) (v : Byte) : (m.write a v).read a = v := by
  unfold Memory.write
  split
  · next h => rw [read_erase_same, h]
  · exact read_insert_same _ a v (erase_without m a)

theorem read_write_other (m : Memory) {a c : Nat} (v : Byte) (h : c ≠ a) : (m.write a v).read c = m.read c := by
  unfold Memory.write
  split
  · exact read_erase_other m h
  · rw [read_insert_other _ v h, read_erase_other m h]

/-! ## The canonical form -/

theorem wfFrom_mono {m : Memory} {lo lo' : Nat} (h : m.wfFrom lo' = true) (le : lo ≤ lo') : m.wfFrom lo = true := by
  cases m with
  | nil => rfl
  | cons e m =>
    obtain ⟨k, b⟩ := e
    simp only [Memory.wfFrom, Bool.and_eq_true, decide_eq_true_eq] at h ⊢
    exact ⟨⟨⟨by omega, h.1.1.2⟩, h.1.2⟩, h.2⟩

theorem wfFrom_erase {m : Memory} {lo : Nat} (a : Nat) (h : m.wfFrom lo = true) : (m.erase a).wfFrom lo = true := by
  induction m generalizing lo with
  | nil => rfl
  | cons e m ih =>
    obtain ⟨k, b⟩ := e
    simp only [Memory.wfFrom, Bool.and_eq_true, decide_eq_true_eq] at h
    by_cases hk : k = a
    · have hrest := ih h.2
      simpa [Memory.erase, hk] using wfFrom_mono hrest (by omega)
    · have hrest := ih h.2
      have e1 : Memory.erase ((k, b) :: m) a = (k, b) :: Memory.erase m a := by simp [Memory.erase, hk]
      rw [e1]
      simp only [Memory.wfFrom, Bool.and_eq_true, decide_eq_true_eq]
      exact ⟨h.1, hrest⟩

theorem wfFrom_insert {m : Memory} {lo a : Nat} {v : Byte} (h : m.wfFrom lo = true) (without : ∀ e ∈ m, e.1 ≠ a)
    (hlo : lo ≤ a) (ha : a < Config.memSize) (hv : v ≠ Config.memInit) : (m.insert a v).wfFrom lo = true := by
  induction m generalizing lo with
  | nil =>
    simp only [Memory.insert, Memory.wfFrom, Bool.and_eq_true, decide_eq_true_eq]
    exact ⟨⟨⟨hlo, ha⟩, hv⟩, trivial⟩
  | cons e m ih =>
    obtain ⟨k, b⟩ := e
    simp only [Memory.wfFrom, Bool.and_eq_true, decide_eq_true_eq] at h
    have hk : k ≠ a := without (k, b) (by simp)
    have hm : ∀ e ∈ m, e.1 ≠ a := fun e he => without e (by simp [he])
    simp only [Memory.insert]
    split
    · next hlt =>
      simp only [Memory.wfFrom, Bool.and_eq_true, decide_eq_true_eq]
      exact ⟨⟨⟨hlo, ha⟩, hv⟩, ⟨⟨⟨by omega, h.1.1.2⟩, h.1.2⟩, h.2⟩⟩
    · next hge =>
      simp only [Memory.wfFrom, Bool.and_eq_true, decide_eq_true_eq]
      exact ⟨h.1, ih h.2 hm (by omega)⟩

/-- A write of a byte inside the address space keeps the canonical form. -/
theorem wf_write {m : Memory} {a : Nat} {v : Byte} (h : m.wf = true) (ha : a < Config.memSize) :
    (m.write a v).wf = true := by
  unfold Memory.write
  split
  · exact wfFrom_erase a h
  · next hv => exact wfFrom_insert (wfFrom_erase a h) (erase_without m a) (by omega) ha hv

theorem reset_mem_wf : State.reset.mem.wf = true := rfl

/-! ## Bytes of the state -/

@[simp] theorem mem8_setMem8_same (s : State) (a : Addr) (v : Byte) : (s.setMem8 a v).mem8 a = v :=
  read_write_same s.mem a.toNat v

theorem mem8_setMem8_other (s : State) {a c : Addr} (v : Byte) (h : c ≠ a) : (s.setMem8 a v).mem8 c = s.mem8 c :=
  read_write_other s.mem v fun e => h (BitVec.eq_of_toNat_eq e)

/-- All that a byte store can do to a byte read. -/
theorem mem8_setMem8 (s : State) (a c : Addr) (v : Byte) : (s.setMem8 a v).mem8 c = if c = a then v else s.mem8 c := by
  split
  · next h => rw [h, mem8_setMem8_same]
  · next h => exact mem8_setMem8_other s v h

theorem setMem8_wf {s : State} (a : Addr) (v : Byte) (h : s.mem.wf = true) : (s.setMem8 a v).mem.wf = true :=
  wf_write h a.isLt

/-! ## Words of the state -/

theorem secondByteAddr_ne (a : Addr) : secondByteAddr a ≠ a := by
  unfold secondByteAddr; bv_omega

/-- All that a word store can do to a byte read. -/
theorem mem8_setMem16 (s : State) (a c : Addr) (v : Word) : (s.setMem16 a v).mem8 c =
    if c = a then loByte v else if c = secondByteAddr a then hiByte v else s.mem8 c := by
  unfold State.setMem16
  rw [writeSecond_eq, mem8_setMem8, mem8_setMem8]
  by_cases h1 : c = a
  · simp [h1, (secondByteAddr_ne a).symm]
  · simp [h1]

@[simp] theorem mem16_setMem16_same (s : State) (a : Addr) (v : Word) : (s.setMem16 a v).mem16 a = v := by
  simp [State.mem16, mem8_setMem16, secondByteAddr_ne]

theorem setMem16_wf {s : State} (a : Addr) (v : Word) (h : s.mem.wf = true) : (s.setMem16 a v).mem.wf = true :=
  setMem8_wf _ _ (setMem8_wf _ _ h)

theorem storeTop_wf {s : State} (v : Word) (h : s.mem.wf = true) : (s.storeTop v).mem.wf = true := setMem16_wf _ _ h

/-! ## Operations that touch no memory -/

@[simp] theorem mem8_setIp (s : State) (t a : Addr) : (s.setIp t).mem8 a = s.mem8 a := rfl
@[simp] theorem mem8_advance (s : State) (n : Nat) (a : Addr) : (s.advance n).mem8 a = s.mem8 a := rfl
@[simp] theorem mem8_setFlags (s : State) (f : Flags) (a : Addr) : (s.setFlags f).mem8 a = s.mem8 a := rfl
@[simp] theorem mem8_set16 (s : State) (r : Reg16) (v : Word) (a : Addr) : (s.set16 r v).mem8 a = s.mem8 a := rfl
@[simp] theorem mem8_set8 (s : State) (r : Reg8) (v : Byte) (a : Addr) : (s.set8 r v).mem8 a = s.mem8 a := rfl
@[simp] theorem mem8_decSp (s : State) (a : Addr) : s.decSp.mem8 a = s.mem8 a := rfl
@[simp] theorem mem8_incSp (s : State) (a : Addr) : s.incSp.mem8 a = s.mem8 a := rfl
@[simp] theorem mem8_writeBack16 (s : State) (d : Reg16) (r : Word × Flags) (a : Addr) :
    (s.writeBack16 d r).mem8 a = s.mem8 a := rfl
@[simp] theorem mem8_writeBack8 (s : State) (d : Reg8) (r : Byte × Flags) (a : Addr) :
    (s.writeBack8 d r).mem8 a = s.mem8 a := rfl
@[simp] theorem mem8_takeFault (s : State) (e : DecodeFault) (a : Addr) : (s.takeFault e).mem8 a = s.mem8 a := rfl

/-! ## Images -/

@[simp] theorem storeBytes_regs (s : State) (a : Addr) (bs : List Byte) : (s.storeBytes a bs).regs = s.regs := by
  induction bs generalizing s a with
  | nil => rfl
  | cons b bs ih => exact ih _ _
@[simp] theorem storeBytes_ip (s : State) (a : Addr) (bs : List Byte) : (s.storeBytes a bs).ip = s.ip := by
  induction bs generalizing s a with
  | nil => rfl
  | cons b bs ih => exact ih _ _
@[simp] theorem storeBytes_flags (s : State) (a : Addr) (bs : List Byte) : (s.storeBytes a bs).flags = s.flags := by
  induction bs generalizing s a with
  | nil => rfl
  | cons b bs ih => exact ih _ _
@[simp] theorem storeBytes_rs (s : State) (a : Addr) (bs : List Byte) : (s.storeBytes a bs).rs = s.rs := by
  induction bs generalizing s a with
  | nil => rfl
  | cons b bs ih => exact ih _ _

theorem storeBytes_wf {s : State} (a : Addr) (bs : List Byte) (h : s.mem.wf = true) : (s.storeBytes a bs).mem.wf = true := by
  induction bs generalizing s a with
  | nil => exact h
  | cons b bs ih => exact ih _ (setMem8_wf a b h)

end Sys2Proof.Machine
end

