-- ==== Sys2Proof/Laws/Decode.lean ====
section
/-! SUPPORT. The tables and the field readers of the decoder (30_encoding.md R72 to R88): each table read back, and what a
register-code byte decodes to. -/

namespace Sys2Proof

open Sys2Proof.Machine (wordOfBytes loByte hiByte)

/-! ## The opcode map -/

theorem opMap_opcode (v : Variant) : opMap v.opcode = some v := by
  cases v <;> rfl

theorem opcode_of_opMap {op : Byte} {v : Variant} (h : opMap op = some v) : v.opcode = op := by
  simpa using List.find?_some h

theorem opMap_eq_some_iff {op : Byte} {v : Variant} : opMap op = some v ↔ v.opcode = op :=
  ⟨opcode_of_opMap, fun h => h ▸ opMap_opcode v⟩

theorem opcode_injective {v u : Variant} (h : v.opcode = u.opcode) : v = u := by
  have := opMap_opcode v
  rw [h, opMap_opcode] at this
  exact (Option.some.inj this).symm

/-! ## Register codes -/

@[simp] theorem reg16OfCode_code (r : Reg16) : reg16OfCode r.code = some r := by
  cases r <;> rfl

@[simp] theorem reg8OfCode_code (r : Reg8) : reg8OfCode r.code = some r := by
  cases r <;> rfl

theorem code_of_reg16OfCode {c : Byte} {r : Reg16} (h : reg16OfCode c = some r) : r.code = c := by
  simpa using List.find?_some h

theorem code_of_reg8OfCode {c : Byte} {r : Reg8} (h : reg8OfCode c = some r) : r.code = c := by
  simpa using List.find?_some h

@[simp] theorem admits_code16 (r : Reg16) : Field.code16.admits r.code = true := by
  cases r <;> rfl

@[simp] theorem admits_code8 (r : Reg8) : Field.code8.admits r.code = true := by
  cases r <;> rfl

/-- A byte a 16-bit field admits is the code of a register, and no other is (30_encoding.md R76, R78). -/
theorem admits_code16_iff (c : Byte) : Field.code16.admits c = (reg16OfCode c).isSome := rfl

/-- A byte an 8-bit field admits is the code of a view, and no other is (30_encoding.md R77, R78). -/
theorem admits_code8_iff (c : Byte) : Field.code8.admits c = (reg8OfCode c).isSome := rfl

/-- The bytes a 16-bit field admits are 0x00 to 0x08 (30_encoding.md R76). -/
theorem admits_code16_range (c : Byte) : Field.code16.admits c = decide (c.toNat ≤ 0x08) := by
  revert c; decide +revert

/-- The bytes an 8-bit field admits are 0x10 to 0x19 (30_encoding.md R77). -/
theorem admits_code8_range (c : Byte) : Field.code8.admits c = (decide (0x10 ≤ c.toNat) && decide (c.toNat ≤ 0x19)) := by
  revert c; decide +revert

/-! ## Field readers -/

theorem fetchReg16_of_code {f : FetchFn} {k : Nat} {r : Reg16} (h : f k = r.code) : fetchReg16 f k = .ok r := by
  simp [fetchReg16, h]

theorem fetchReg8_of_code {f : FetchFn} {k : Nat} {r : Reg8} (h : f k = r.code) : fetchReg8 f k = .ok r := by
  simp [fetchReg8, h]

theorem fetchWord_of_bytes {f : FetchFn} {k : Nat} {v : Word} (lo : f k = loByte v) (hi : f (k + 1) = hiByte v) :
    fetchWord f k = v := by
  simp [fetchWord, lo, hi]

/-- All that reading a 16-bit register code can do. -/
theorem fetchReg16_cases (f : FetchFn) (k : Nat) :
    (∃ r : Reg16, f k = r.code ∧ fetchReg16 f k = .ok r) ∨
    (Field.code16.admits (f k) = false ∧ fetchReg16 f k = .error (.badRegister (f k))) := by
  rw [admits_code16_iff]
  unfold fetchReg16
  cases h : reg16OfCode (f k) with
  | some r => exact .inl ⟨r, (code_of_reg16OfCode h).symm, rfl⟩
  | none => exact .inr ⟨rfl, rfl⟩

/-- All that reading an 8-bit view code can do. -/
theorem fetchReg8_cases (f : FetchFn) (k : Nat) :
    (∃ r : Reg8, f k = r.code ∧ fetchReg8 f k = .ok r) ∨
    (Field.code8.admits (f k) = false ∧ fetchReg8 f k = .error (.badRegister (f k))) := by
  rw [admits_code8_iff]
  unfold fetchReg8
  cases h : reg8OfCode (f k) with
  | some r => exact .inl ⟨r, (code_of_reg8OfCode h).symm, rfl⟩
  | none => exact .inr ⟨rfl, rfl⟩

@[simp] theorem thenDecode_ok {α β : Type} (x : α) (next : α → Except DecodeFault β) : thenDecode (.ok x) next = next x := rfl

@[simp] theorem thenDecode_error {α β : Type} (e : DecodeFault) (next : α → Except DecodeFault β) :
    thenDecode (.error e) next = .error e := rfl

/-- A decoding that goes on past a register code read it, and its rest decoded. -/
theorem thenDecode_eq_ok {α β : Type} {e : Except DecodeFault α} {next : α → Except DecodeFault β} {y : β}
    (h : thenDecode e next = .ok y) : ∃ x, e = .ok x ∧ next x = .ok y := by
  cases e with
  | ok x => exact ⟨x, rfl, h⟩
  | error r => cases h

/-! ## The decoder -/

theorem decodeFrom_of_opcode {f : FetchFn} {v : Variant} (h : f 0 = v.opcode) : decodeFrom f = decodeOperands f v := by
  simp only [decodeFrom, h, opMap_opcode]

theorem decodeFrom_unassigned {f : FetchFn} (h : opMap (f 0) = none) : decodeFrom f = .error (.unknownOpcode (f 0)) := by
  simp only [decodeFrom, h]

/-- What decodes was selected by its opcode byte. -/
theorem decodeFrom_eq_ok {f : FetchFn} {i : Instr} (h : decodeFrom f = .ok i) :
    ∃ v, f 0 = v.opcode ∧ decodeOperands f v = .ok i := by
  unfold decodeFrom at h
  split at h
  · cases h
  · next v hv => exact ⟨v, (opcode_of_opMap hv).symm, h⟩

end Sys2Proof
end

