-- ==== Sys2Proof/Laws/Flags.lean ====
section
/-! SUPPORT. The flag unit read as facts on `BitVec` (41_arithmetic.md R161 to R166) and the loop of the shifts unrolled
(43_shift_rotate.md R240). -/

namespace Sys2Proof.Machine

/-! ## Truncation -/

@[simp] theorem truncW_toNat {w : Nat} (x : BitVec w) : truncW w (x.toNat : Int) = x := by
  simp [truncW]

@[simp] theorem msbW_toNat {w : Nat} (x : BitVec w) : msbW w (x.toNat : Int) = x.msb := by
  simp [msbW]

@[simp] theorem zeroW_toNat {w : Nat} (x : BitVec w) : zeroW w (x.toNat : Int) = (x == 0#w) := by
  simp [zeroW]

theorem truncW_add {w : Nat} (a b : Int) : truncW w (a + b) = truncW w a + truncW w b := by
  simp [truncW, BitVec.ofInt_add]

theorem truncW_sub {w : Nat} (a b : Int) : truncW w (a - b) = truncW w a - truncW w b := by
  have h := truncW_add (w := w) (a - b) b
  rw [Int.sub_add_cancel] at h
  rw [h, BitVec.add_sub_cancel]

@[simp] theorem truncW_cf {w : Nat} (c : Bool) : truncW w c.toInt = bitW w c := by
  cases c <;> simp [truncW, bitW, Bool.toInt]

/-! ## Results -/

@[simp] theorem addWith_value {w : Nat} (x y : BitVec w) : (addWith x y.toNat).1 = x + y := by
  simp [addWith, truncW_add]

@[simp] theorem subWith_value {w : Nat} (x y : BitVec w) : (subWith x y.toNat).1 = x - y := by
  simp [subWith, truncW_sub]

@[simp] theorem addWith_fold_value {w : Nat} (x y : BitVec w) (c : Bool) :
    (addWith x (foldCarry y.toNat c)).1 = x + y + bitW w c := by
  simp [addWith, foldCarry, truncW_add, BitVec.add_assoc]

@[simp] theorem subWith_fold_value {w : Nat} (x y : BitVec w) (c : Bool) :
    (subWith x (foldCarry y.toNat c)).1 = x - y - bitW w c := by
  simp only [subWith, foldCarry, truncW_sub, truncW_add, truncW_toNat, truncW_cf]
  rw [BitVec.sub_sub]

@[simp] theorem logicWith_value {w : Nat} (r : BitVec w) : (logicWith r).1 = r := rfl

@[simp] theorem logicWith_flags {w : Nat} (r : BitVec w) : (logicWith r).2 = flagsLogic r := rfl

/-! ## Shifts and rotates -/

@[simp] theorem loop_zero {w : Nat} (op : ShiftOp) (v : BitVec w) (cf : Bool) : op.loop 0 v cf = (v, cf) := rfl

theorem loop_succ {w : Nat} (op : ShiftOp) (n : Nat) (v : BitVec w) (cf : Bool) :
    op.loop (n + 1) v cf = op.loop n (op.once v cf).1 (op.once v cf).2 := rfl

/-- The last iteration of the loop, split off. -/
theorem loop_succ_last {w : Nat} (op : ShiftOp) (n : Nat) (v : BitVec w) (cf : Bool) :
    op.loop (n + 1) v cf = op.once (op.loop n v cf).1 (op.loop n v cf).2 := by
  induction n generalizing v cf with
  | zero => rfl
  | succ n ih => rw [loop_succ, ih, ← loop_succ]

@[simp] theorem apply_zero {w : Nat} (op : ShiftOp) (byCl : Bool) (v : BitVec w) (old : Flags) :
    op.apply byCl 0 v old = (v, old) := rfl

theorem apply_value {w : Nat} (op : ShiftOp) (byCl : Bool) (n : Nat) (v : BitVec w) (old : Flags) :
    (op.apply byCl n v old).1 = (op.loop n v old.cf).1 := by
  unfold ShiftOp.apply
  split
  · next h => rw [h]; rfl
  · rfl

theorem apply_cf {w : Nat} (op : ShiftOp) (byCl : Bool) (n : Nat) (v : BitVec w) (old : Flags) :
    (op.apply byCl n v old).2.cf = (op.loop n v old.cf).2 := by
  unfold ShiftOp.apply
  split
  · next h => rw [h]; rfl
  · rfl

/-- A rotate keeps ZF and SF (43_shift_rotate.md R245 to R248). -/
theorem apply_rotate_keeps {w : Nat} {op : ShiftOp} (h : op.isShift = false) (byCl : Bool) (n : Nat) (v : BitVec w)
    (old : Flags) : (op.apply byCl n v old).2.zf = old.zf ∧ (op.apply byCl n v old).2.sf = old.sf := by
  unfold ShiftOp.apply
  split <;> simp [h]

/-- Writing back a register's own value and the flags as they were changes nothing. -/
theorem writeBack16_self (s : State) (d : Reg16) : s.writeBack16 d (s.get16 d, s.flags) = s := by
  cases s; cases d <;> rfl

theorem writeBack8_self (s : State) (d : Reg8) : s.writeBack8 d (s.get8 d, s.flags) = s := by
  have e : s.set8 d (s.get8 d) = s.set16 (parentOf d) (s.get16 (parentOf d)) := by
    simp only [State.set8, State.get8]
    cases isHighView d <;> simp
  have e2 : s.set8 d (s.get8 d) = s := by
    rw [e]; exact writeBack16_self s (parentOf d)
  simp only [State.writeBack8, e2]; rfl

end Sys2Proof.Machine
end

