-- ==== Sys2Proof/Laws/PerInstr.lean ====
section
/-! SUPPORT. The per-instruction family `EncodedLength`: what the encoder emits for an instruction is as long as its opcode
says and well formed (30_encoding.md R71, R75, R78, R85, R103). -/

namespace Sys2Proof.Laws.EncodedLength

/-- The bytes of `i`: the opcode of its variant, then operand bytes that its layout admits, as many as the fixed length
says. -/
def Statement (i : Instr) : Prop :=
  encode i = i.variant.opcode :: (encode i).tail ∧ (encode i).length = i.variant.length ∧
    (RawInstr.mk i.variant (encode i).tail).wellFormed = true

theorem of_tail {i : Instr} {bs : List Byte} (e : encode i = i.variant.opcode :: bs)
    (len : i.variant.length = bs.length + 1) (layout : bs.length = i.variant.layout.length)
    (ok : firstBadByte i.variant.layout bs = none) : Statement i := by
  refine ⟨by rw [e]; rfl, by rw [e, len]; rfl, ?_⟩
  rw [e]
  simp [RawInstr.wellFormed, layout, ok]

theorem bad16 (r : Reg16) (fs : List Field) (bs : List Byte) :
    firstBadByte (.code16 :: fs) (r.code :: bs) = firstBadByte fs bs := by simp [firstBadByte]

theorem bad8 (r : Reg8) (fs : List Field) (bs : List Byte) :
    firstBadByte (.code8 :: fs) (r.code :: bs) = firstBadByte fs bs := by simp [firstBadByte]

theorem badValue (b : Byte) (fs : List Field) (bs : List Byte) :
    firstBadByte (.value :: fs) (b :: bs) = firstBadByte fs bs := rfl

theorem badIgnored (b : Byte) (fs : List Field) (bs : List Byte) :
    firstBadByte (.ignored :: fs) (b :: bs) = firstBadByte fs bs := rfl

theorem badNil : firstBadByte [] [] = none := rfl

theorem halt : Statement (.halt) :=
  of_tail rfl rfl rfl (badNil)

theorem ret : Statement (.ret) :=
  of_tail rfl rfl rfl (badNil)

theorem jmp (target : Addr) : Statement (.jmp target) :=
  of_tail rfl rfl rfl ((badValue ..).trans ((badValue ..)))

theorem call (target : Addr) : Statement (.call target) :=
  of_tail rfl rfl rfl ((badValue ..).trans ((badValue ..)))

theorem jz (target : Addr) : Statement (.jz target) :=
  of_tail rfl rfl rfl ((badValue ..).trans ((badValue ..)))

theorem jnz (target : Addr) : Statement (.jnz target) :=
  of_tail rfl rfl rfl ((badValue ..).trans ((badValue ..)))

theorem jc (target : Addr) : Statement (.jc target) :=
  of_tail rfl rfl rfl ((badValue ..).trans ((badValue ..)))

theorem jnc (target : Addr) : Statement (.jnc target) :=
  of_tail rfl rfl rfl ((badValue ..).trans ((badValue ..)))

theorem js (target : Addr) : Statement (.js target) :=
  of_tail rfl rfl rfl ((badValue ..).trans ((badValue ..)))

theorem jns (target : Addr) : Statement (.jns target) :=
  of_tail rfl rfl rfl ((badValue ..).trans ((badValue ..)))

theorem jo (target : Addr) : Statement (.jo target) :=
  of_tail rfl rfl rfl ((badValue ..).trans ((badValue ..)))

theorem jno (target : Addr) : Statement (.jno target) :=
  of_tail rfl rfl rfl ((badValue ..).trans ((badValue ..)))

theorem movR16R16 (d r : Reg16) : Statement (.movR16R16 d r) :=
  of_tail rfl rfl rfl ((bad16 ..).trans ((bad16 ..)))

theorem movR8R8 (d r : Reg8) : Statement (.movR8R8 d r) :=
  of_tail rfl rfl rfl ((bad8 ..).trans ((bad8 ..)))

theorem movR16Imm (d : Reg16) (v : Word) : Statement (.movR16Imm d v) :=
  of_tail rfl rfl rfl ((bad16 ..).trans ((badValue ..).trans ((badValue ..))))

theorem movR8Imm (d : Reg8) (v : Byte) : Statement (.movR8Imm d v) :=
  of_tail rfl rfl rfl ((bad8 ..).trans ((badValue ..)))

theorem movR16Mem (d : Reg16) (a : Addr) : Statement (.movR16Mem d a) :=
  of_tail rfl rfl rfl ((bad16 ..).trans ((badValue ..).trans ((badValue ..))))

theorem movMemR16 (r : Reg16) (a : Addr) : Statement (.movMemR16 r a) :=
  of_tail rfl rfl rfl ((bad16 ..).trans ((badValue ..).trans ((badValue ..))))

theorem movR16Ind (d b : Reg16) : Statement (.movR16Ind d b) :=
  of_tail rfl rfl rfl ((bad16 ..).trans ((bad16 ..)))

theorem movIndR16 (b r : Reg16) : Statement (.movIndR16 b r) :=
  of_tail rfl rfl rfl ((bad16 ..).trans ((bad16 ..)))

theorem movR16Pair (d b x : Reg16) : Statement (.movR16Pair d b x) :=
  of_tail rfl rfl rfl ((bad16 ..).trans ((bad16 ..).trans ((bad16 ..))))

theorem movPairR16 (b x r : Reg16) : Statement (.movPairR16 b x r) :=
  of_tail rfl rfl rfl ((bad16 ..).trans ((bad16 ..).trans ((bad16 ..))))

theorem movR8Mem (d : Reg8) (a : Addr) : Statement (.movR8Mem d a) :=
  of_tail rfl rfl rfl ((bad8 ..).trans ((badValue ..).trans ((badValue ..))))

theorem movMemR8 (r : Reg8) (a : Addr) : Statement (.movMemR8 r a) :=
  of_tail rfl rfl rfl ((bad8 ..).trans ((badValue ..).trans ((badValue ..))))

theorem movR8Ind (d : Reg8) (b : Reg16) : Statement (.movR8Ind d b) :=
  of_tail rfl rfl rfl ((bad8 ..).trans ((bad16 ..)))

theorem movIndR8 (b : Reg16) (r : Reg8) : Statement (.movIndR8 b r) :=
  of_tail rfl rfl rfl ((bad16 ..).trans ((bad8 ..)))

theorem movR8Pair (d : Reg8) (b x : Reg16) : Statement (.movR8Pair d b x) :=
  of_tail rfl rfl rfl ((bad8 ..).trans ((bad16 ..).trans ((bad16 ..))))

theorem movPairR8 (b x : Reg16) (r : Reg8) : Statement (.movPairR8 b x r) :=
  of_tail rfl rfl rfl ((bad16 ..).trans ((bad16 ..).trans ((bad8 ..))))

theorem movMemImm8 (a : Addr) (v : Byte) : Statement (.movMemImm8 a v) :=
  of_tail rfl rfl rfl ((badValue ..).trans ((badValue ..).trans ((badValue ..))))

theorem movMemImm16 (a : Addr) (v : Word) : Statement (.movMemImm16 a v) :=
  of_tail rfl rfl rfl ((badValue ..).trans ((badValue ..).trans ((badValue ..).trans ((badValue ..)))))

theorem xchgR16R16 (d r : Reg16) : Statement (.xchgR16R16 d r) :=
  of_tail rfl rfl rfl ((bad16 ..).trans ((bad16 ..)))

theorem xchgR8R8 (d r : Reg8) : Statement (.xchgR8R8 d r) :=
  of_tail rfl rfl rfl ((bad8 ..).trans ((bad8 ..)))

theorem addR16R16 (d r : Reg16) : Statement (.addR16R16 d r) :=
  of_tail rfl rfl rfl ((bad16 ..).trans ((bad16 ..)))

theorem addR8R8 (d r : Reg8) : Statement (.addR8R8 d r) :=
  of_tail rfl rfl rfl ((bad8 ..).trans ((bad8 ..)))

theorem addR16Imm (d : Reg16) (v : Word) : Statement (.addR16Imm d v) :=
  of_tail rfl rfl rfl ((bad16 ..).trans ((badValue ..).trans ((badValue ..))))

theorem addR8Imm (d : Reg8) (v : Byte) : Statement (.addR8Imm d v) :=
  of_tail rfl rfl rfl ((bad8 ..).trans ((badValue ..)))

theorem adcR16R16 (d r : Reg16) : Statement (.adcR16R16 d r) :=
  of_tail rfl rfl rfl ((bad16 ..).trans ((bad16 ..)))

theorem adcR8R8 (d r : Reg8) : Statement (.adcR8R8 d r) :=
  of_tail rfl rfl rfl ((bad8 ..).trans ((bad8 ..)))

theorem adcR16Imm (d : Reg16) (v : Word) : Statement (.adcR16Imm d v) :=
  of_tail rfl rfl rfl ((bad16 ..).trans ((badValue ..).trans ((badValue ..))))

theorem adcR8Imm (d : Reg8) (v : Byte) : Statement (.adcR8Imm d v) :=
  of_tail rfl rfl rfl ((bad8 ..).trans ((badValue ..)))

theorem subR16R16 (d r : Reg16) : Statement (.subR16R16 d r) :=
  of_tail rfl rfl rfl ((bad16 ..).trans ((bad16 ..)))

theorem subR8R8 (d r : Reg8) : Statement (.subR8R8 d r) :=
  of_tail rfl rfl rfl ((bad8 ..).trans ((bad8 ..)))

theorem subR16Imm (d : Reg16) (v : Word) : Statement (.subR16Imm d v) :=
  of_tail rfl rfl rfl ((bad16 ..).trans ((badValue ..).trans ((badValue ..))))

theorem subR8Imm (d : Reg8) (v : Byte) : Statement (.subR8Imm d v) :=
  of_tail rfl rfl rfl ((bad8 ..).trans ((badValue ..)))

theorem sbbR16R16 (d r : Reg16) : Statement (.sbbR16R16 d r) :=
  of_tail rfl rfl rfl ((bad16 ..).trans ((bad16 ..)))

theorem sbbR8R8 (d r : Reg8) : Statement (.sbbR8R8 d r) :=
  of_tail rfl rfl rfl ((bad8 ..).trans ((bad8 ..)))

theorem sbbR16Imm (d : Reg16) (v : Word) : Statement (.sbbR16Imm d v) :=
  of_tail rfl rfl rfl ((bad16 ..).trans ((badValue ..).trans ((badValue ..))))

theorem sbbR8Imm (d : Reg8) (v : Byte) : Statement (.sbbR8Imm d v) :=
  of_tail rfl rfl rfl ((bad8 ..).trans ((badValue ..)))

theorem cmpR16R16 (d r : Reg16) : Statement (.cmpR16R16 d r) :=
  of_tail rfl rfl rfl ((bad16 ..).trans ((bad16 ..)))

theorem cmpR8R8 (d r : Reg8) : Statement (.cmpR8R8 d r) :=
  of_tail rfl rfl rfl ((bad8 ..).trans ((bad8 ..)))

theorem cmpR16Imm (d : Reg16) (v : Word) : Statement (.cmpR16Imm d v) :=
  of_tail rfl rfl rfl ((bad16 ..).trans ((badValue ..).trans ((badValue ..))))

theorem cmpR8Imm (d : Reg8) (v : Byte) : Statement (.cmpR8Imm d v) :=
  of_tail rfl rfl rfl ((bad8 ..).trans ((badValue ..)))

theorem andR16R16 (d r : Reg16) : Statement (.andR16R16 d r) :=
  of_tail rfl rfl rfl ((bad16 ..).trans ((bad16 ..)))

theorem andR8R8 (d r : Reg8) : Statement (.andR8R8 d r) :=
  of_tail rfl rfl rfl ((bad8 ..).trans ((bad8 ..)))

theorem andR16Imm (d : Reg16) (v : Word) : Statement (.andR16Imm d v) :=
  of_tail rfl rfl rfl ((bad16 ..).trans ((badValue ..).trans ((badValue ..))))

theorem andR8Imm (d : Reg8) (v : Byte) : Statement (.andR8Imm d v) :=
  of_tail rfl rfl rfl ((bad8 ..).trans ((badValue ..)))

theorem orR16R16 (d r : Reg16) : Statement (.orR16R16 d r) :=
  of_tail rfl rfl rfl ((bad16 ..).trans ((bad16 ..)))

theorem orR8R8 (d r : Reg8) : Statement (.orR8R8 d r) :=
  of_tail rfl rfl rfl ((bad8 ..).trans ((bad8 ..)))

theorem orR16Imm (d : Reg16) (v : Word) : Statement (.orR16Imm d v) :=
  of_tail rfl rfl rfl ((bad16 ..).trans ((badValue ..).trans ((badValue ..))))

theorem orR8Imm (d : Reg8) (v : Byte) : Statement (.orR8Imm d v) :=
  of_tail rfl rfl rfl ((bad8 ..).trans ((badValue ..)))

theorem xorR16R16 (d r : Reg16) : Statement (.xorR16R16 d r) :=
  of_tail rfl rfl rfl ((bad16 ..).trans ((bad16 ..)))

theorem xorR8R8 (d r : Reg8) : Statement (.xorR8R8 d r) :=
  of_tail rfl rfl rfl ((bad8 ..).trans ((bad8 ..)))

theorem xorR16Imm (d : Reg16) (v : Word) : Statement (.xorR16Imm d v) :=
  of_tail rfl rfl rfl ((bad16 ..).trans ((badValue ..).trans ((badValue ..))))

theorem xorR8Imm (d : Reg8) (v : Byte) : Statement (.xorR8Imm d v) :=
  of_tail rfl rfl rfl ((bad8 ..).trans ((badValue ..)))

theorem incR16 (d : Reg16) : Statement (.incR16 d) :=
  of_tail rfl rfl rfl ((bad16 ..))

theorem incR8 (d : Reg8) : Statement (.incR8 d) :=
  of_tail rfl rfl rfl ((bad8 ..))

theorem decR16 (d : Reg16) : Statement (.decR16 d) :=
  of_tail rfl rfl rfl ((bad16 ..))

theorem decR8 (d : Reg8) : Statement (.decR8 d) :=
  of_tail rfl rfl rfl ((bad8 ..))

theorem notR16 (d : Reg16) : Statement (.notR16 d) :=
  of_tail rfl rfl rfl ((bad16 ..))

theorem notR8 (d : Reg8) : Statement (.notR8 d) :=
  of_tail rfl rfl rfl ((bad8 ..))

theorem pushR16 (r : Reg16) : Statement (.pushR16 r) :=
  of_tail rfl rfl rfl ((bad16 ..))

theorem popR16 (d : Reg16) : Statement (.popR16 d) :=
  of_tail rfl rfl rfl ((bad16 ..))

theorem shlR16Imm (d : Reg16) (n : Byte) : Statement (.shlR16Imm d n) :=
  of_tail rfl rfl rfl ((bad16 ..).trans ((badValue ..)))

theorem shlR16Cl (d : Reg16) : Statement (.shlR16Cl d) :=
  of_tail rfl rfl rfl ((bad16 ..).trans ((badIgnored ..)))

theorem shlR8Imm (d : Reg8) (n : Byte) : Statement (.shlR8Imm d n) :=
  of_tail rfl rfl rfl ((bad8 ..).trans ((badValue ..)))

theorem shlR8Cl (d : Reg8) : Statement (.shlR8Cl d) :=
  of_tail rfl rfl rfl ((bad8 ..).trans ((badIgnored ..)))

theorem shrR16Imm (d : Reg16) (n : Byte) : Statement (.shrR16Imm d n) :=
  of_tail rfl rfl rfl ((bad16 ..).trans ((badValue ..)))

theorem shrR16Cl (d : Reg16) : Statement (.shrR16Cl d) :=
  of_tail rfl rfl rfl ((bad16 ..).trans ((badIgnored ..)))

theorem shrR8Imm (d : Reg8) (n : Byte) : Statement (.shrR8Imm d n) :=
  of_tail rfl rfl rfl ((bad8 ..).trans ((badValue ..)))

theorem shrR8Cl (d : Reg8) : Statement (.shrR8Cl d) :=
  of_tail rfl rfl rfl ((bad8 ..).trans ((badIgnored ..)))

theorem sarR16Imm (d : Reg16) (n : Byte) : Statement (.sarR16Imm d n) :=
  of_tail rfl rfl rfl ((bad16 ..).trans ((badValue ..)))

theorem sarR16Cl (d : Reg16) : Statement (.sarR16Cl d) :=
  of_tail rfl rfl rfl ((bad16 ..).trans ((badIgnored ..)))

theorem sarR8Imm (d : Reg8) (n : Byte) : Statement (.sarR8Imm d n) :=
  of_tail rfl rfl rfl ((bad8 ..).trans ((badValue ..)))

theorem sarR8Cl (d : Reg8) : Statement (.sarR8Cl d) :=
  of_tail rfl rfl rfl ((bad8 ..).trans ((badIgnored ..)))

theorem rolR16Imm (d : Reg16) (n : Byte) : Statement (.rolR16Imm d n) :=
  of_tail rfl rfl rfl ((bad16 ..).trans ((badValue ..)))

theorem rolR16Cl (d : Reg16) : Statement (.rolR16Cl d) :=
  of_tail rfl rfl rfl ((bad16 ..).trans ((badIgnored ..)))

theorem rolR8Imm (d : Reg8) (n : Byte) : Statement (.rolR8Imm d n) :=
  of_tail rfl rfl rfl ((bad8 ..).trans ((badValue ..)))

theorem rolR8Cl (d : Reg8) : Statement (.rolR8Cl d) :=
  of_tail rfl rfl rfl ((bad8 ..).trans ((badIgnored ..)))

theorem rorR16Imm (d : Reg16) (n : Byte) : Statement (.rorR16Imm d n) :=
  of_tail rfl rfl rfl ((bad16 ..).trans ((badValue ..)))

theorem rorR16Cl (d : Reg16) : Statement (.rorR16Cl d) :=
  of_tail rfl rfl rfl ((bad16 ..).trans ((badIgnored ..)))

theorem rorR8Imm (d : Reg8) (n : Byte) : Statement (.rorR8Imm d n) :=
  of_tail rfl rfl rfl ((bad8 ..).trans ((badValue ..)))

theorem rorR8Cl (d : Reg8) : Statement (.rorR8Cl d) :=
  of_tail rfl rfl rfl ((bad8 ..).trans ((badIgnored ..)))

theorem rclR16Imm (d : Reg16) (n : Byte) : Statement (.rclR16Imm d n) :=
  of_tail rfl rfl rfl ((bad16 ..).trans ((badValue ..)))

theorem rclR16Cl (d : Reg16) : Statement (.rclR16Cl d) :=
  of_tail rfl rfl rfl ((bad16 ..).trans ((badIgnored ..)))

theorem rclR8Imm (d : Reg8) (n : Byte) : Statement (.rclR8Imm d n) :=
  of_tail rfl rfl rfl ((bad8 ..).trans ((badValue ..)))

theorem rclR8Cl (d : Reg8) : Statement (.rclR8Cl d) :=
  of_tail rfl rfl rfl ((bad8 ..).trans ((badIgnored ..)))

theorem rcrR16Imm (d : Reg16) (n : Byte) : Statement (.rcrR16Imm d n) :=
  of_tail rfl rfl rfl ((bad16 ..).trans ((badValue ..)))

theorem rcrR16Cl (d : Reg16) : Statement (.rcrR16Cl d) :=
  of_tail rfl rfl rfl ((bad16 ..).trans ((badIgnored ..)))

theorem rcrR8Imm (d : Reg8) (n : Byte) : Statement (.rcrR8Imm d n) :=
  of_tail rfl rfl rfl ((bad8 ..).trans ((badValue ..)))

theorem rcrR8Cl (d : Reg8) : Statement (.rcrR8Cl d) :=
  of_tail rfl rfl rfl ((bad8 ..).trans ((badIgnored ..)))

end Sys2Proof.Laws.EncodedLength
end

