-- ==== Sys2Proof/Laws/Step.lean ====
section
/-! SUPPORT. All that one step can do, said once (60_exceptions.md R347). -/

namespace Sys2Proof.Machine

theorem step_terminal {s : State} (h : s.rs ≠ .running) : step s = .next s := by
  unfold step
  split
  · next e => exact absurd e h
  · rfl
  · rfl

theorem step_running {s : State} (h : s.rs = .running) : step s =
    match decodeFrom s.fetch8 with
    | .ok i => exec i s
    | .error e => .next (s.takeFault e) := by
  obtain ⟨_, _, _, _, rs⟩ := s
  cases (h : rs = .running)
  rfl

theorem step_decoded {s : State} {i : Instr} (h : s.rs = .running) (d : decodeFrom s.fetch8 = .ok i) : step s = exec i s := by
  simp only [step_running h, d]

theorem step_decode_fault {s : State} {e : DecodeFault} (h : s.rs = .running) (d : decodeFrom s.fetch8 = .error e) :
    step s = .next (s.takeFault e) := by
  simp only [step_running h, d]

/-- What a step that answers `t` did: nothing in a terminal state, a fault at decode, or the one decoded instruction. -/
theorem step_cases {s t : State} (h : step s = .next t) :
    (s.rs ≠ .running ∧ t = s) ∨
    (s.rs = .running ∧ ∃ e, decodeFrom s.fetch8 = .error e ∧ t = s.takeFault e) ∨
    (s.rs = .running ∧ ∃ i, decodeFrom s.fetch8 = .ok i ∧ exec i s = .next t) := by
  by_cases hr : s.rs = .running
  · cases hd : decodeFrom s.fetch8 with
    | error e =>
      rw [step_decode_fault hr hd] at h
      exact .inr (.inl ⟨hr, e, rfl, (Host.Outcome.next.inj h).symm⟩)
    | ok i =>
      rw [step_decoded hr hd] at h
      exact .inr (.inr ⟨hr, i, rfl, h⟩)
  · rw [step_terminal hr] at h
    exact .inl ⟨hr, (Host.Outcome.next.inj h).symm⟩

end Sys2Proof.Machine
end

