-- ==== Sys2Proof/Tests/Slice0.lean ====
section
/-! SUPPORT. Tests on fixed values. The expected results are the spec's own: the examples of its rules, the vectors of
95_test_vectors.md, the worked example of 30_encoding.md R106. Each theorem named `test_witness_<Name>` shows a concrete
state and operands that meet every hypothesis of the obligation of that name. -/

namespace Sys2Proof.Tests

open Sys2Proof Sys2Proof.Machine

/-! ## Helpers -/

/-- Four flags from digits, in the order CF, ZF, SF, OF. -/
def fl (c z s o : Nat) : Flags := ⟨c == 1, z == 1, s == 1, o == 1⟩

/-- The reset machine with these bytes at `ip`, registers, memory bytes and flags. -/
def start (ip : Addr) (bytes : List Byte) (regs : List (Reg16 × Word)) (mem : List (Addr × Byte)) (f : Flags) : State :=
  mem.foldl (fun (s : State) p => s.setMem8 p.1 p.2)
    (State.storeBytes { regs.foldl (fun (s : State) p => s.set16 p.1 p.2) State.reset with ip := ip, flags := f } ip bytes)

/-- One step from `start` gives exactly the listed changes. -/
def runs (ip : Addr) (bytes : List Byte) (regs : List (Reg16 × Word)) (mem : List (Addr × Byte)) (f : Flags)
    (regs' : List (Reg16 × Word)) (mem' : List (Addr × Byte)) (f' : Flags) (ip' : Addr) (rs' : RunState) : Bool :=
  let s := start ip bytes regs mem f
  let t := mem'.foldl (fun s p => s.setMem8 p.1 p.2) (regs'.foldl (fun s p => s.set16 p.1 p.2) s)
  match step s with
  | .next u => decide (u = { t with ip := ip', flags := f', rs := rs' })
  | .fault _ => false
  | .refused _ => false

/-- Each list of bytes decodes to the instruction beside it, with nothing left over. -/
def decodes (ws : List (List Byte × Instr)) : Bool :=
  ws.all fun w =>
    match decodeBytes w.1 with
    | .ok (i, rest) => decide (i = w.2) && rest.isEmpty
    | .error _ => false

/-! ## Well-formedness refuses each kind of ill-formed instruction -/

theorem test_wf_accepts : RawInstr.wellFormed ⟨.movR16R16, [0x01, 0x00]⟩ = true := by decide
theorem test_wf_refuses_too_few_bytes : RawInstr.wellFormed ⟨.movR16R16, [0x01]⟩ = false := by decide
theorem test_wf_refuses_too_many_bytes : RawInstr.wellFormed ⟨.halt, [0x00]⟩ = false := by decide
theorem test_wf_refuses_no_register : RawInstr.wellFormed ⟨.movR16R16, [0x01, 0x09]⟩ = false := by decide
theorem test_wf_refuses_no_view : RawInstr.wellFormed ⟨.movR8Imm, [0x1A, 0x00]⟩ = false := by decide
theorem test_wf_refuses_view_for_register : RawInstr.wellFormed ⟨.pushR16, [0x10]⟩ = false := by decide
theorem test_wf_refuses_register_for_view : RawInstr.wellFormed ⟨.incR8, [0x00]⟩ = false := by decide
theorem test_wf_bad_index_is_refused : RawInstr.wellFormed ⟨.movR8Pair, [0x10, 0x01, 0x12]⟩ = false := by decide
theorem test_wf_takes_any_byte_2_of_cl_shift : RawInstr.wellFormed ⟨.shlR8Cl, [0x16, 0x99]⟩ = true := by decide

/-! ## Decoding of words written out from the spec, every constructor -/

/-- control transfer and HALT, from the examples of the rules. -/
theorem test_words_control : decodes
  [
    ([0x01], .halt),
    ([0x02], .ret),
    ([0x10, 0x34, 0x12], .jmp 0x1234),
    ([0x11, 0x00, 0x02], .call 0x0200),
    ([0x12, 0x00, 0x03], .jz 0x0300),
    ([0x13, 0x00, 0x03], .jnz 0x0300),
    ([0x14, 0x00, 0x03], .jc 0x0300),
    ([0x15, 0x00, 0x03], .jnc 0x0300),
    ([0x16, 0x00, 0x03], .js 0x0300),
    ([0x17, 0x00, 0x03], .jns 0x0300),
    ([0x18, 0x00, 0x03], .jo 0x0300),
    ([0x19, 0x00, 0x03], .jno 0x0300),
    ([0x66, 0x00], .pushR16 .ax),
    ([0x67, 0x01], .popR16 .bx)] = true := by decide

/-- MOV between registers and memory, from the examples of the rules. -/
theorem test_words_mov_1 : decodes
  [
    ([0x20, 0x01, 0x00], .movR16R16 .bx .ax),
    ([0x21, 0x11, 0x12], .movR8R8 .ah .bl),
    ([0x22, 0x05, 0x00, 0x80], .movR16Imm .sp 0x8000),
    ([0x23, 0x15, 0xAB], .movR8Imm .ch 0xAB),
    ([0x24, 0x03, 0x00, 0x02], .movR16Mem .dx 0x0200),
    ([0x25, 0x00, 0x00, 0x02], .movMemR16 .ax 0x0200),
    ([0x26, 0x00, 0x01], .movR16Ind .ax .bx),
    ([0x27, 0x08, 0x02], .movIndR16 .di .cx),
    ([0x28, 0x00, 0x01, 0x07], .movR16Pair .ax .bx .si),
    ([0x29, 0x06, 0x08, 0x04], .movPairR16 .bp .di .ex),
    ([0x2A, 0x10, 0x00, 0x02], .movR8Mem .al 0x0200),
    ([0x2B, 0x13, 0x01, 0x02], .movMemR8 .bh 0x0201),
    ([0x2C, 0x19, 0x07], .movR8Ind .eh .si),
    ([0x2D, 0x01, 0x16], .movIndR8 .bx .dl)] = true := by decide

/-- MOV between registers and memory, from the examples of the rules. -/
theorem test_words_mov_2 : decodes
  [
    ([0x2E, 0x14, 0x01, 0x01], .movR8Pair .cl .bx .bx),
    ([0x2F, 0x07, 0x08, 0x11], .movPairR8 .si .di .ah),
    ([0x30, 0x00, 0x02, 0x05], .movMemImm8 0x0200 5),
    ([0x31, 0x00, 0x02, 0x34, 0x12], .movMemImm16 0x0200 0x1234)] = true := by decide

/-- XCHG, INC, DEC, NOT, from the examples of the rules. -/
theorem test_words_unary : decodes
  [
    ([0x32, 0x00, 0x05], .xchgR16R16 .ax .sp),
    ([0x33, 0x10, 0x11], .xchgR8R8 .al .ah),
    ([0x60, 0x00], .incR16 .ax),
    ([0x61, 0x10], .incR8 .al),
    ([0x62, 0x00], .decR16 .ax),
    ([0x63, 0x14], .decR8 .cl),
    ([0x64, 0x00], .notR16 .ax),
    ([0x65, 0x12], .notR8 .bl)] = true := by decide

/-- ADD, ADC, SUB, SBB and CMP, from the examples of the rules. -/
theorem test_words_arith_1 : decodes
  [
    ([0x40, 0x00, 0x01], .addR16R16 .ax .bx),
    ([0x41, 0x10, 0x12], .addR8R8 .al .bl),
    ([0x42, 0x00, 0x01, 0x00], .addR16Imm .ax 1),
    ([0x43, 0x11, 0x01], .addR8Imm .ah 1),
    ([0x44, 0x00, 0x01], .adcR16R16 .ax .bx),
    ([0x45, 0x10, 0x12], .adcR8R8 .al .bl),
    ([0x46, 0x00, 0xFF, 0x7F], .adcR16Imm .ax 0x7FFF),
    ([0x47, 0x10, 0x00], .adcR8Imm .al 0),
    ([0x48, 0x00, 0x01], .subR16R16 .ax .bx),
    ([0x49, 0x10, 0x12], .subR8R8 .al .bl),
    ([0x4A, 0x00, 0x34, 0x12], .subR16Imm .ax 0x1234),
    ([0x4B, 0x17, 0x0A], .subR8Imm .dh 10),
    ([0x4C, 0x00, 0x01], .sbbR16R16 .ax .bx),
    ([0x4D, 0x10, 0x12], .sbbR8R8 .al .bl)] = true := by decide

/-- ADD, ADC, SUB, SBB and CMP, from the examples of the rules. -/
theorem test_words_arith_2 : decodes
  [
    ([0x4E, 0x00, 0x00, 0x00], .sbbR16Imm .ax 0),
    ([0x4F, 0x10, 0x00], .sbbR8Imm .al 0),
    ([0x50, 0x00, 0x01], .cmpR16R16 .ax .bx),
    ([0x51, 0x10, 0x12], .cmpR8R8 .al .bl),
    ([0x52, 0x00, 0x01, 0x00], .cmpR16Imm .ax 1),
    ([0x53, 0x14, 0x10], .cmpR8Imm .cl 0x10)] = true := by decide

/-- AND, OR and XOR, from the examples of the rules. -/
theorem test_words_logic : decodes
  [
    ([0x54, 0x00, 0x01], .andR16R16 .ax .bx),
    ([0x55, 0x10, 0x11], .andR8R8 .al .ah),
    ([0x56, 0x05, 0xF0, 0xFF], .andR16Imm .sp 0xFFF0),
    ([0x57, 0x12, 0x0F], .andR8Imm .bl 0x0F),
    ([0x58, 0x00, 0x01], .orR16R16 .ax .bx),
    ([0x59, 0x16, 0x16], .orR8R8 .dl .dl),
    ([0x5A, 0x00, 0x00, 0x80], .orR16Imm .ax 0x8000),
    ([0x5B, 0x15, 0x80], .orR8Imm .ch 0x80),
    ([0x5C, 0x00, 0x00], .xorR16R16 .ax .ax),
    ([0x5D, 0x10, 0x12], .xorR8R8 .al .bl),
    ([0x5E, 0x00, 0xFF, 0xFF], .xorR16Imm .ax 0xFFFF),
    ([0x5F, 0x19, 0x55], .xorR8Imm .eh 0x55)] = true := by decide

/-- SHL, SHR and SAR, from the examples of the rules. -/
theorem test_words_shift : decodes
  [
    ([0x80, 0x00, 0x01], .shlR16Imm .ax 1),
    ([0x81, 0x00, 0x14], .shlR16Cl .ax),
    ([0x82, 0x10, 0x08], .shlR8Imm .al 8),
    ([0x83, 0x12, 0x14], .shlR8Cl .bl),
    ([0x84, 0x00, 0x01], .shrR16Imm .ax 1),
    ([0x85, 0x03, 0x14], .shrR16Cl .dx),
    ([0x86, 0x11, 0x01], .shrR8Imm .ah 1),
    ([0x87, 0x14, 0x14], .shrR8Cl .cl),
    ([0x88, 0x00, 0x01], .sarR16Imm .ax 1),
    ([0x89, 0x00, 0x14], .sarR16Cl .ax),
    ([0x8A, 0x10, 0x02], .sarR8Imm .al 2),
    ([0x8B, 0x13, 0x14], .sarR8Cl .bh)] = true := by decide

/-- ROL, ROR, RCL and RCR, from the examples of the rules. -/
theorem test_words_rotate_1 : decodes
  [
    ([0x8C, 0x00, 0x01], .rolR16Imm .ax 1),
    ([0x8D, 0x00, 0x14], .rolR16Cl .ax),
    ([0x8E, 0x10, 0x04], .rolR8Imm .al 4),
    ([0x8F, 0x10, 0x14], .rolR8Cl .al),
    ([0x90, 0x00, 0x01], .rorR16Imm .ax 1),
    ([0x91, 0x01, 0x14], .rorR16Cl .bx),
    ([0x92, 0x10, 0x01], .rorR8Imm .al 1),
    ([0x93, 0x16, 0x14], .rorR8Cl .dl),
    ([0x94, 0x00, 0x01], .rclR16Imm .ax 1),
    ([0x95, 0x00, 0x14], .rclR16Cl .ax),
    ([0x96, 0x10, 0x09], .rclR8Imm .al 9),
    ([0x97, 0x12, 0x14], .rclR8Cl .bl),
    ([0x98, 0x00, 0x01], .rcrR16Imm .ax 1),
    ([0x99, 0x00, 0x14], .rcrR16Cl .ax)] = true := by decide

/-- ROL, ROR, RCL and RCR, from the examples of the rules. -/
theorem test_words_rotate_2 : decodes
  [
    ([0x9A, 0x10, 0x01], .rcrR8Imm .al 1),
    ([0x9B, 0x11, 0x14], .rcrR8Cl .ah)] = true := by decide

/-! ## One step of every instruction -/

/-- `HALT`: the example of R320. -/
theorem test_halt :
    runs 0 [0x01] [] [] (fl 0 0 0 0) [] [] (fl 0 0 0 0) 0x0001 .halted = true := by decide

/-- `RET`: the example of R293. -/
theorem test_ret :
    runs 0x0200 [0x02] [(.sp, 0xFFFC)] [(0xFFFC, 0x13), (0xFFFD, 0x00)] (fl 0 0 0 0) [(.sp, 0xFFFE)] [] (fl 0 0 0 0) 0x0013 .running = true := by decide

/-- `RET`: vector C24. -/
theorem test_ret_2 :
    runs 0x0010 [0x02] [] [] (fl 0 0 0 0) [(.sp, 0x0000)] [] (fl 0 0 0 0) 0x0000 .running = true := by decide

/-- `JMP label`: the example of R291. -/
theorem test_jmp :
    runs 0 [0x10, 0x34, 0x12] [] [] (fl 0 0 0 0) [] [] (fl 0 0 0 0) 0x1234 .running = true := by decide

/-- `CALL label`: the example of R292. -/
theorem test_call :
    runs 0x0010 [0x11, 0x00, 0x02] [(.sp, 0xFFFE)] [] (fl 0 0 0 0) [(.sp, 0xFFFC)] [(0xFFFC, 0x13), (0xFFFD, 0x00)] (fl 0 0 0 0) 0x0200 .running = true := by decide

/-- `CALL label`: vector C22. -/
theorem test_call_2 :
    runs 0xFFFE [0x11, 0x00, 0x30] [(.sp, 0x0200)] [] (fl 0 0 0 0) [(.sp, 0x01FE)] [(0x01FE, 0x01)] (fl 0 0 0 0) 0x3000 .running = true := by decide

/-- `JZ label`: the example of R294. -/
theorem test_jz :
    runs 0x0020 [0x12, 0x00, 0x03] [] [] (fl 0 1 0 0) [] [] (fl 0 1 0 0) 0x0300 .running = true := by decide

/-- `JZ label`: the example of R294. -/
theorem test_jz_2 :
    runs 0x0020 [0x12, 0x00, 0x03] [] [] (fl 0 0 0 0) [] [] (fl 0 0 0 0) 0x0023 .running = true := by decide

/-- `JNZ label`: the example of R295. -/
theorem test_jnz :
    runs 0x0020 [0x13, 0x00, 0x03] [] [] (fl 0 1 0 0) [] [] (fl 0 1 0 0) 0x0023 .running = true := by decide

/-- `JNZ label`: the example of R295. -/
theorem test_jnz_2 :
    runs 0x0020 [0x13, 0x00, 0x03] [] [] (fl 0 0 0 0) [] [] (fl 0 0 0 0) 0x0300 .running = true := by decide

/-- `JC label`: the example of R296. -/
theorem test_jc :
    runs 0x0020 [0x14, 0x00, 0x03] [] [] (fl 1 0 0 0) [] [] (fl 1 0 0 0) 0x0300 .running = true := by decide

/-- `JC label`: the example of R296. -/
theorem test_jc_2 :
    runs 0x0020 [0x14, 0x00, 0x03] [] [] (fl 0 0 0 0) [] [] (fl 0 0 0 0) 0x0023 .running = true := by decide

/-- `JNC label`: the example of R297. -/
theorem test_jnc :
    runs 0x0020 [0x15, 0x00, 0x03] [] [] (fl 1 0 0 0) [] [] (fl 1 0 0 0) 0x0023 .running = true := by decide

/-- `JNC label`: the example of R297. -/
theorem test_jnc_2 :
    runs 0x0020 [0x15, 0x00, 0x03] [] [] (fl 0 0 0 0) [] [] (fl 0 0 0 0) 0x0300 .running = true := by decide

/-- `JS label`: the example of R298. -/
theorem test_js :
    runs 0x0020 [0x16, 0x00, 0x03] [] [] (fl 0 0 1 0) [] [] (fl 0 0 1 0) 0x0300 .running = true := by decide

/-- `JS label`: the example of R298. -/
theorem test_js_2 :
    runs 0x0020 [0x16, 0x00, 0x03] [] [] (fl 0 0 0 0) [] [] (fl 0 0 0 0) 0x0023 .running = true := by decide

/-- `JNS label`: the example of R299. -/
theorem test_jns :
    runs 0x0020 [0x17, 0x00, 0x03] [] [] (fl 0 0 1 0) [] [] (fl 0 0 1 0) 0x0023 .running = true := by decide

/-- `JNS label`: the example of R299. -/
theorem test_jns_2 :
    runs 0x0020 [0x17, 0x00, 0x03] [] [] (fl 0 0 0 0) [] [] (fl 0 0 0 0) 0x0300 .running = true := by decide

/-- `JO label`: the example of R300. -/
theorem test_jo :
    runs 0x0020 [0x18, 0x00, 0x03] [] [] (fl 0 0 0 1) [] [] (fl 0 0 0 1) 0x0300 .running = true := by decide

/-- `JO label`: the example of R300. -/
theorem test_jo_2 :
    runs 0x0020 [0x18, 0x00, 0x03] [] [] (fl 0 0 0 0) [] [] (fl 0 0 0 0) 0x0023 .running = true := by decide

/-- `JNO label`: the example of R301. -/
theorem test_jno :
    runs 0x0020 [0x19, 0x00, 0x03] [] [] (fl 0 0 0 1) [] [] (fl 0 0 0 1) 0x0023 .running = true := by decide

/-- `JNO label`: the example of R301. -/
theorem test_jno_2 :
    runs 0x0020 [0x19, 0x00, 0x03] [] [] (fl 0 0 0 0) [] [] (fl 0 0 0 0) 0x0300 .running = true := by decide

/-- `MOV r16,r16`: the example of R133. -/
theorem test_movR16R16 :
    runs 0 [0x20, 0x01, 0x00] [(.ax, 0x1234), (.bx, 0xFFFF)] [] (fl 0 0 0 0) [(.bx, 0x1234)] [] (fl 0 0 0 0) 0x0003 .running = true := by decide

/-- `MOV r8,r8`: the example of R134. -/
theorem test_movR8R8 :
    runs 0 [0x21, 0x11, 0x12] [(.ax, 0x1122), (.bx, 0x33CC)] [] (fl 0 0 0 0) [(.ax, 0xCC22)] [] (fl 0 0 0 0) 0x0003 .running = true := by decide

/-- `MOV r16,imm16`: the example of R135. -/
theorem test_movR16Imm :
    runs 0 [0x22, 0x05, 0x00, 0x80] [] [] (fl 0 0 0 0) [(.sp, 0x8000)] [] (fl 0 0 0 0) 0x0004 .running = true := by decide

/-- `MOV r16,imm16`: vector Y10. -/
theorem test_movR16Imm_2 :
    runs 0xFFFE [0x22, 0x00, 0x34, 0x12] [] [] (fl 0 0 0 0) [(.ax, 0x1234)] [] (fl 0 0 0 0) 0x0002 .running = true := by decide

/-- `MOV r8,imm8`: the example of R136. -/
theorem test_movR8Imm :
    runs 0 [0x23, 0x15, 0xAB] [(.cx, 0x1234)] [] (fl 0 0 0 0) [(.cx, 0xAB34)] [] (fl 0 0 0 0) 0x0003 .running = true := by decide

/-- `MOV r16,[imm16]`: the example of R137. -/
theorem test_movR16Mem :
    runs 0 [0x24, 0x03, 0x00, 0x02] [] [(0x0200, 0x78), (0x0201, 0x56)] (fl 0 0 0 0) [(.dx, 0x5678)] [] (fl 0 0 0 0) 0x0004 .running = true := by decide

/-- `MOV r16,[imm16]`: vector M9. -/
theorem test_movR16Mem_2 :
    runs 0 [0x24, 0x00, 0xFF, 0xFF] [] [(0xFFFF, 0xCD)] (fl 0 0 0 0) [(.ax, 0x24CD)] [] (fl 0 0 0 0) 0x0004 .running = true := by decide

/-- `MOV [imm16],r16`: the example of R138. -/
theorem test_movMemR16 :
    runs 0 [0x25, 0x00, 0x00, 0x02] [(.ax, 0xBEEF)] [] (fl 0 0 0 0) [] [(0x0200, 0xEF), (0x0201, 0xBE)] (fl 0 0 0 0) 0x0004 .running = true := by decide

/-- `MOV [imm16],r16`: vector M11. -/
theorem test_movMemR16_2 :
    runs 0x0100 [0x25, 0x00, 0xFF, 0xFF] [(.ax, 0x55AA)] [] (fl 0 0 0 0) [] [(0x0000, 0x55), (0xFFFF, 0xAA)] (fl 0 0 0 0) 0x0104 .running = true := by decide

/-- `MOV r16,[r16]`: the example of R139. -/
theorem test_movR16Ind :
    runs 0 [0x26, 0x00, 0x01] [(.bx, 0x0300)] [(0x0300, 0xCD), (0x0301, 0xAB)] (fl 0 0 0 0) [(.ax, 0xABCD)] [] (fl 0 0 0 0) 0x0003 .running = true := by decide

/-- `MOV [r16],r16`: the example of R140. -/
theorem test_movIndR16 :
    runs 0 [0x27, 0x08, 0x02] [(.cx, 0x1234), (.di, 0xFFFF)] [] (fl 0 0 0 0) [] [(0x0000, 0x12), (0xFFFF, 0x34)] (fl 0 0 0 0) 0x0003 .running = true := by decide

/-- `MOV r16,[r16+r16]`: the example of R141. -/
theorem test_movR16Pair :
    runs 0 [0x28, 0x00, 0x01, 0x07] [(.bx, 0xFFF0), (.si, 0x0110)] [(0x0100, 0x34), (0x0101, 0x12)] (fl 0 0 0 0) [(.ax, 0x1234)] [] (fl 0 0 0 0) 0x0004 .running = true := by decide

/-- `MOV r16,[r16+r16]`: vector M17. -/
theorem test_movR16Pair_2 :
    runs 0 [0x28, 0x00, 0x01, 0x07] [(.bx, 0xFFF0), (.si, 0x0020)] [(0x0010, 0x78), (0x0011, 0x56)] (fl 0 0 0 0) [(.ax, 0x5678)] [] (fl 0 0 0 0) 0x0004 .running = true := by decide

/-- `MOV [r16+r16],r16`: the example of R142. -/
theorem test_movPairR16 :
    runs 0 [0x29, 0x06, 0x08, 0x04] [(.ex, 0xA55A), (.bp, 0x0400), (.di, 0x0002)] [] (fl 0 0 0 0) [] [(0x0402, 0x5A), (0x0403, 0xA5)] (fl 0 0 0 0) 0x0004 .running = true := by decide

/-- `MOV r8,[imm16]`: the example of R143. -/
theorem test_movR8Mem :
    runs 0 [0x2A, 0x10, 0x00, 0x02] [(.ax, 0xFFFF)] [(0x0200, 0x7E)] (fl 0 0 0 0) [(.ax, 0xFF7E)] [] (fl 0 0 0 0) 0x0004 .running = true := by decide

/-- `MOV [imm16],r8`: the example of R144. -/
theorem test_movMemR8 :
    runs 0 [0x2B, 0x13, 0x01, 0x02] [(.bx, 0x9A00)] [] (fl 0 0 0 0) [] [(0x0201, 0x9A)] (fl 0 0 0 0) 0x0004 .running = true := by decide

/-- `MOV r8,[r16]`: the example of R145. -/
theorem test_movR8Ind :
    runs 0 [0x2C, 0x19, 0x07] [(.ex, 0x0011), (.si, 0x0500)] [(0x0500, 0xC3)] (fl 0 0 0 0) [(.ex, 0xC311)] [] (fl 0 0 0 0) 0x0003 .running = true := by decide

/-- `MOV [r16],r8`: the example of R146. -/
theorem test_movIndR8 :
    runs 0 [0x2D, 0x01, 0x16] [(.bx, 0x0600), (.dx, 0x00EE)] [] (fl 0 0 0 0) [] [(0x0600, 0xEE)] (fl 0 0 0 0) 0x0003 .running = true := by decide

/-- `MOV r8,[r16+r16]`: the example of R147. -/
theorem test_movR8Pair :
    runs 0 [0x2E, 0x14, 0x01, 0x01] [(.bx, 0x0180)] [(0x0300, 0x09)] (fl 0 0 0 0) [(.cx, 0x0009)] [] (fl 0 0 0 0) 0x0004 .running = true := by decide

/-- `MOV [r16+r16],r8`: the example of R148. -/
theorem test_movPairR8 :
    runs 0 [0x2F, 0x07, 0x08, 0x11] [(.ax, 0x4200), (.si, 0x0700), (.di, 0x0001)] [] (fl 0 0 0 0) [] [(0x0701, 0x42)] (fl 0 0 0 0) 0x0004 .running = true := by decide

/-- `MOV [imm16],imm8`: the example of R149. -/
theorem test_movMemImm8 :
    runs 0 [0x30, 0x00, 0x02, 0x05] [] [(0x0200, 0xAA), (0x0201, 0xBB)] (fl 0 0 0 0) [] [(0x0200, 0x05)] (fl 0 0 0 0) 0x0004 .running = true := by decide

/-- `MOV [imm16],imm16`: the example of R150. -/
theorem test_movMemImm16 :
    runs 0 [0x31, 0x00, 0x02, 0x34, 0x12] [] [] (fl 0 0 0 0) [] [(0x0200, 0x34), (0x0201, 0x12)] (fl 0 0 0 0) 0x0005 .running = true := by decide

/-- `XCHG r16,r16`: the example of R151. -/
theorem test_xchgR16R16 :
    runs 0 [0x32, 0x00, 0x05] [(.ax, 0x0100)] [] (fl 0 0 0 0) [(.ax, 0xFFFE), (.sp, 0x0100)] [] (fl 0 0 0 0) 0x0003 .running = true := by decide

/-- `XCHG r8,r8`: the example of R152. -/
theorem test_xchgR8R8 :
    runs 0 [0x33, 0x10, 0x11] [(.ax, 0x12EF)] [] (fl 0 0 0 0) [(.ax, 0xEF12)] [] (fl 0 0 0 0) 0x0003 .running = true := by decide

/-- `XCHG r8,r8`: vector M32. -/
theorem test_xchgR8R8_2 :
    runs 0 [0x33, 0x10, 0x11] [(.ax, 0x12FE)] [] (fl 0 0 0 0) [(.ax, 0xFE12)] [] (fl 0 0 0 0) 0x0003 .running = true := by decide

/-- `ADD r16,r16`: the example of R170. -/
theorem test_addR16R16 :
    runs 0 [0x40, 0x00, 0x01] [(.ax, 0x7FFF), (.bx, 0x0001)] [] (fl 0 0 0 0) [(.ax, 0x8000)] [] (fl 0 0 1 1) 0x0003 .running = true := by decide

/-- `ADD r8,r8`: the example of R171. -/
theorem test_addR8R8 :
    runs 0 [0x41, 0x10, 0x12] [(.ax, 0x55FF), (.bx, 0x0001)] [] (fl 0 0 0 0) [(.ax, 0x5500)] [] (fl 1 1 0 0) 0x0003 .running = true := by decide

/-- `ADD r16,imm16`: the example of R172. -/
theorem test_addR16Imm :
    runs 0 [0x42, 0x00, 0x01, 0x00] [(.ax, 0xFFFF)] [] (fl 0 0 0 0) [(.ax, 0x0000)] [] (fl 1 1 0 0) 0x0004 .running = true := by decide

/-- `ADD r8,imm8`: the example of R173. -/
theorem test_addR8Imm :
    runs 0 [0x43, 0x11, 0x01] [(.ax, 0x7F55)] [] (fl 0 0 0 0) [(.ax, 0x8055)] [] (fl 0 0 1 1) 0x0003 .running = true := by decide

/-- `ADC r16,r16`: the example of R174. -/
theorem test_adcR16R16 :
    runs 0 [0x44, 0x00, 0x01] [(.ax, 0x0001), (.bx, 0xFFFF)] [] (fl 1 0 0 0) [] [] (fl 1 0 0 0) 0x0003 .running = true := by decide

/-- `ADC r8,r8`: the example of R175. -/
theorem test_adcR8R8 :
    runs 0 [0x45, 0x10, 0x12] [(.ax, 0x0010), (.bx, 0x0020)] [] (fl 1 0 0 0) [(.ax, 0x0031)] [] (fl 0 0 0 0) 0x0003 .running = true := by decide

/-- `ADC r16,imm16`: the example of R176. -/
theorem test_adcR16Imm :
    runs 0 [0x46, 0x00, 0xFF, 0x7F] [(.ax, 0x0001)] [] (fl 1 0 0 0) [(.ax, 0x8001)] [] (fl 0 0 1 0) 0x0004 .running = true := by decide

/-- `ADC r8,imm8`: the example of R177. -/
theorem test_adcR8Imm :
    runs 0 [0x47, 0x10, 0x00] [(.ax, 0x00FF)] [] (fl 1 0 0 0) [(.ax, 0x0000)] [] (fl 1 1 0 0) 0x0003 .running = true := by decide

/-- `SUB r16,r16`: the example of R178. -/
theorem test_subR16R16 :
    runs 0 [0x48, 0x00, 0x01] [(.ax, 0x0000), (.bx, 0x0001)] [] (fl 0 0 0 0) [(.ax, 0xFFFF)] [] (fl 1 0 1 0) 0x0003 .running = true := by decide

/-- `SUB r8,r8`: the example of R179. -/
theorem test_subR8R8 :
    runs 0 [0x49, 0x10, 0x12] [(.ax, 0x0080), (.bx, 0x0001)] [] (fl 0 0 0 0) [(.ax, 0x007F)] [] (fl 0 0 0 1) 0x0003 .running = true := by decide

/-- `SUB r16,imm16`: the example of R180. -/
theorem test_subR16Imm :
    runs 0 [0x4A, 0x00, 0x34, 0x12] [(.ax, 0x1234)] [] (fl 1 0 0 0) [(.ax, 0x0000)] [] (fl 0 1 0 0) 0x0004 .running = true := by decide

/-- `SUB r8,imm8`: the example of R181. -/
theorem test_subR8Imm :
    runs 0 [0x4B, 0x17, 0x0A] [(.dx, 0x0577)] [] (fl 0 0 0 0) [(.dx, 0xFB77)] [] (fl 1 0 1 0) 0x0003 .running = true := by decide

/-- `SBB r16,r16`: the example of R182. -/
theorem test_sbbR16R16 :
    runs 0 [0x4C, 0x00, 0x01] [(.ax, 0x0005), (.bx, 0xFFFF)] [] (fl 1 0 0 0) [] [] (fl 1 0 0 0) 0x0003 .running = true := by decide

/-- `SBB r8,r8`: the example of R183. -/
theorem test_sbbR8R8 :
    runs 0 [0x4D, 0x10, 0x12] [(.ax, 0x0010), (.bx, 0x000F)] [] (fl 1 0 0 0) [(.ax, 0x0000)] [] (fl 0 1 0 0) 0x0003 .running = true := by decide

/-- `SBB r16,imm16`: the example of R184. -/
theorem test_sbbR16Imm :
    runs 0 [0x4E, 0x00, 0x00, 0x00] [(.ax, 0x8000)] [] (fl 1 0 0 0) [(.ax, 0x7FFF)] [] (fl 0 0 0 1) 0x0004 .running = true := by decide

/-- `SBB r8,imm8`: the example of R185. -/
theorem test_sbbR8Imm :
    runs 0 [0x4F, 0x10, 0x00] [(.ax, 0x0000)] [] (fl 1 0 0 0) [(.ax, 0x00FF)] [] (fl 1 0 1 0) 0x0003 .running = true := by decide

/-- `CMP r16,r16`: the example of R186. -/
theorem test_cmpR16R16 :
    runs 0 [0x50, 0x00, 0x01] [(.ax, 0x0005), (.bx, 0x0005)] [] (fl 0 0 0 0) [] [] (fl 0 1 0 0) 0x0003 .running = true := by decide

/-- `CMP r8,r8`: the example of R187. -/
theorem test_cmpR8R8 :
    runs 0 [0x51, 0x10, 0x12] [(.ax, 0x0001), (.bx, 0x0002)] [] (fl 0 0 0 0) [] [] (fl 1 0 1 0) 0x0003 .running = true := by decide

/-- `CMP r16,imm16`: the example of R188. -/
theorem test_cmpR16Imm :
    runs 0 [0x52, 0x00, 0x01, 0x00] [(.ax, 0x8000)] [] (fl 0 0 0 0) [] [] (fl 0 0 0 1) 0x0004 .running = true := by decide

/-- `CMP r8,imm8`: the example of R189. -/
theorem test_cmpR8Imm :
    runs 0 [0x53, 0x14, 0x10] [(.cx, 0x0010)] [] (fl 1 0 0 0) [] [] (fl 0 1 0 0) 0x0003 .running = true := by decide

/-- `AND r16,r16`: the example of R211. -/
theorem test_andR16R16 :
    runs 0 [0x54, 0x00, 0x01] [(.ax, 0xF0F0), (.bx, 0xFF00)] [] (fl 1 0 0 1) [(.ax, 0xF000)] [] (fl 0 0 1 0) 0x0003 .running = true := by decide

/-- `AND r8,r8`: the example of R212. -/
theorem test_andR8R8 :
    runs 0 [0x55, 0x10, 0x11] [(.ax, 0x0FF0)] [] (fl 0 0 0 0) [(.ax, 0x0F00)] [] (fl 0 1 0 0) 0x0003 .running = true := by decide

/-- `AND r16,imm16`: the example of R213. -/
theorem test_andR16Imm :
    runs 0 [0x56, 0x05, 0xF0, 0xFF] [(.sp, 0xFFFE)] [] (fl 0 0 0 0) [(.sp, 0xFFF0)] [] (fl 0 0 1 0) 0x0004 .running = true := by decide

/-- `AND r8,imm8`: the example of R214. -/
theorem test_andR8Imm :
    runs 0 [0x57, 0x12, 0x0F] [(.bx, 0x12AB)] [] (fl 1 0 0 0) [(.bx, 0x120B)] [] (fl 0 0 0 0) 0x0003 .running = true := by decide

/-- `OR r16,r16`: the example of R215. -/
theorem test_orR16R16 :
    runs 0 [0x58, 0x00, 0x01] [(.ax, 0x00F0), (.bx, 0x0F00)] [] (fl 0 0 0 1) [(.ax, 0x0FF0)] [] (fl 0 0 0 0) 0x0003 .running = true := by decide

/-- `OR r8,r8`: the example of R216. -/
theorem test_orR8R8 :
    runs 0 [0x59, 0x16, 0x16] [(.dx, 0x1200)] [] (fl 1 0 0 0) [] [] (fl 0 1 0 0) 0x0003 .running = true := by decide

/-- `OR r16,imm16`: the example of R217. -/
theorem test_orR16Imm :
    runs 0 [0x5A, 0x00, 0x00, 0x80] [(.ax, 0x0001)] [] (fl 0 0 0 0) [(.ax, 0x8001)] [] (fl 0 0 1 0) 0x0004 .running = true := by decide

/-- `OR r8,imm8`: the example of R218. -/
theorem test_orR8Imm :
    runs 0 [0x5B, 0x15, 0x80] [(.cx, 0x0001)] [] (fl 0 0 0 0) [(.cx, 0x8001)] [] (fl 0 0 1 0) 0x0003 .running = true := by decide

/-- `XOR r16,r16`: the example of R219. -/
theorem test_xorR16R16 :
    runs 0 [0x5C, 0x00, 0x00] [(.ax, 0x1234)] [] (fl 1 0 1 1) [(.ax, 0x0000)] [] (fl 0 1 0 0) 0x0003 .running = true := by decide

/-- `XOR r8,r8`: the example of R220. -/
theorem test_xorR8R8 :
    runs 0 [0x5D, 0x10, 0x12] [(.ax, 0x00FF), (.bx, 0x000F)] [] (fl 0 0 0 0) [(.ax, 0x00F0)] [] (fl 0 0 1 0) 0x0003 .running = true := by decide

/-- `XOR r16,imm16`: the example of R221. -/
theorem test_xorR16Imm :
    runs 0 [0x5E, 0x00, 0xFF, 0xFF] [(.ax, 0x00FF)] [] (fl 0 0 0 0) [(.ax, 0xFF00)] [] (fl 0 0 1 0) 0x0004 .running = true := by decide

/-- `XOR r8,imm8`: the example of R222. -/
theorem test_xorR8Imm :
    runs 0 [0x5F, 0x19, 0x55] [(.ex, 0x5501)] [] (fl 0 0 0 0) [(.ex, 0x0001)] [] (fl 0 1 0 0) 0x0003 .running = true := by decide

/-- `INC r16`: the example of R190. -/
theorem test_incR16 :
    runs 0 [0x60, 0x00] [(.ax, 0x7FFF)] [] (fl 1 0 0 0) [(.ax, 0x8000)] [] (fl 1 0 1 1) 0x0002 .running = true := by decide

/-- `INC r16`: vector A35. -/
theorem test_incR16_2 :
    runs 0 [0x60, 0x00] [(.ax, 0xFFFF)] [] (fl 0 0 0 0) [(.ax, 0x0000)] [] (fl 0 1 0 0) 0x0002 .running = true := by decide

/-- `INC r8`: the example of R191. -/
theorem test_incR8 :
    runs 0 [0x61, 0x10] [(.ax, 0x12FF)] [] (fl 0 0 0 0) [(.ax, 0x1200)] [] (fl 0 1 0 0) 0x0002 .running = true := by decide

/-- `DEC r16`: the example of R192. -/
theorem test_decR16 :
    runs 0 [0x62, 0x00] [(.ax, 0x8000)] [] (fl 0 0 0 0) [(.ax, 0x7FFF)] [] (fl 0 0 0 1) 0x0002 .running = true := by decide

/-- `DEC r16`: vector A41. -/
theorem test_decR16_2 :
    runs 0 [0x62, 0x00] [(.ax, 0x0000)] [] (fl 1 0 0 0) [(.ax, 0xFFFF)] [] (fl 1 0 1 0) 0x0002 .running = true := by decide

/-- `DEC r8`: the example of R193. -/
theorem test_decR8 :
    runs 0 [0x63, 0x14] [(.cx, 0x0001)] [] (fl 1 0 0 0) [(.cx, 0x0000)] [] (fl 1 1 0 0) 0x0002 .running = true := by decide

/-- `DEC r8`: vector A44. -/
theorem test_decR8_2 :
    runs 0 [0x63, 0x15] [(.cx, 0x00FF)] [] (fl 0 0 0 0) [(.cx, 0xFFFF)] [] (fl 0 0 1 0) 0x0002 .running = true := by decide

/-- `NOT r16`: the example of R223. -/
theorem test_notR16 :
    runs 0 [0x64, 0x00] [(.ax, 0x00FF)] [] (fl 1 0 0 1) [(.ax, 0xFF00)] [] (fl 0 0 1 0) 0x0002 .running = true := by decide

/-- `NOT r8`: the example of R224. -/
theorem test_notR8 :
    runs 0 [0x65, 0x12] [(.bx, 0x12FF)] [] (fl 0 0 0 0) [(.bx, 0x1200)] [] (fl 0 1 0 0) 0x0002 .running = true := by decide

/-- `PUSH r16`: the example of R303. -/
theorem test_pushR16 :
    runs 0 [0x66, 0x00] [(.ax, 0x1234)] [] (fl 0 0 0 0) [(.sp, 0xFFFC)] [(0xFFFC, 0x34), (0xFFFD, 0x12)] (fl 0 0 0 0) 0x0002 .running = true := by decide

/-- `PUSH r16`: vector C27. -/
theorem test_pushR16_2 :
    runs 0x0100 [0x66, 0x01] [(.bx, 0xA55A), (.sp, 0x0001)] [] (fl 0 0 0 0) [(.sp, 0xFFFF)] [(0x0000, 0xA5), (0xFFFF, 0x5A)] (fl 0 0 0 0) 0x0102 .running = true := by decide

/-- `POP r16`: the example of R304. -/
theorem test_popR16 :
    runs 0 [0x67, 0x01] [(.sp, 0xFFFC)] [(0xFFFC, 0x34), (0xFFFD, 0x12)] (fl 0 0 0 0) [(.bx, 0x1234), (.sp, 0xFFFE)] [] (fl 0 0 0 0) 0x0002 .running = true := by decide

/-- `POP r16`: vector C31. -/
theorem test_popR16_2 :
    runs 0 [0x67, 0x00] [] [] (fl 1 1 1 1) [(.sp, 0x0000)] [] (fl 1 1 1 1) 0x0002 .running = true := by decide

/-- `SHL r16,imm8`: the example of R250. -/
theorem test_shlR16Imm :
    runs 0 [0x80, 0x00, 0x01] [(.ax, 0x4000)] [] (fl 1 0 0 0) [(.ax, 0x8000)] [] (fl 0 0 1 1) 0x0003 .running = true := by decide

/-- `SHL r16,imm8`: vector H7. -/
theorem test_shlR16Imm_2 :
    runs 0 [0x80, 0x00, 0x11] [(.ax, 0xFFFF)] [] (fl 1 0 0 0) [(.ax, 0x0000)] [] (fl 0 1 0 0) 0x0003 .running = true := by decide

/-- `SHL r16,CL`: the example of R251. -/
theorem test_shlR16Cl :
    runs 0 [0x81, 0x00, 0x14] [(.ax, 0x0003), (.cx, 0x0004)] [] (fl 0 0 0 1) [(.ax, 0x0030)] [] (fl 0 0 0 1) 0x0003 .running = true := by decide

/-- `SHL r16,CL`: vector H9. -/
theorem test_shlR16Cl_2 :
    runs 0 [0x81, 0x01, 0x14] [(.bx, 0x0001), (.cx, 0x0304)] [] (fl 0 0 0 0) [(.bx, 0x0010)] [] (fl 0 0 0 0) 0x0003 .running = true := by decide

/-- `SHL r8,imm8`: the example of R252. -/
theorem test_shlR8Imm :
    runs 0 [0x82, 0x10, 0x08] [(.ax, 0x1201)] [] (fl 0 0 0 0) [(.ax, 0x1200)] [] (fl 1 1 0 0) 0x0003 .running = true := by decide

/-- `SHL r8,imm8`: vector H12. -/
theorem test_shlR8Imm_2 :
    runs 0 [0x82, 0x10, 0x08] [(.ax, 0x0001)] [] (fl 0 0 0 0) [(.ax, 0x0000)] [] (fl 1 1 0 0) 0x0003 .running = true := by decide

/-- `SHL r8,CL`: the example of R253. -/
theorem test_shlR8Cl :
    runs 0 [0x83, 0x12, 0x14] [(.bx, 0x0081), (.cx, 0x0000)] [] (fl 1 1 1 1) [] [] (fl 1 1 1 1) 0x0003 .running = true := by decide

/-- `SHL r8,CL`: vector H14. -/
theorem test_shlR8Cl_2 :
    runs 0 [0x83, 0x16, 0x99] [(.cx, 0x0001), (.dx, 0x0011)] [] (fl 0 0 0 0) [(.dx, 0x0022)] [] (fl 0 0 0 0) 0x0003 .running = true := by decide

/-- `SHR r16,imm8`: the example of R254. -/
theorem test_shrR16Imm :
    runs 0 [0x84, 0x00, 0x01] [(.ax, 0x8001)] [] (fl 0 0 0 0) [(.ax, 0x4000)] [] (fl 1 0 0 1) 0x0003 .running = true := by decide

/-- `SHR r16,imm8`: vector H18. -/
theorem test_shrR16Imm_2 :
    runs 0 [0x84, 0x00, 0x10] [(.ax, 0x8000)] [] (fl 0 0 0 0) [(.ax, 0x0000)] [] (fl 1 1 0 0) 0x0003 .running = true := by decide

/-- `SHR r16,CL`: the example of R255. -/
theorem test_shrR16Cl :
    runs 0 [0x85, 0x03, 0x14] [(.cx, 0x0008), (.dx, 0xFF00)] [] (fl 0 0 0 1) [(.dx, 0x00FF)] [] (fl 0 0 0 1) 0x0003 .running = true := by decide

/-- `SHR r8,imm8`: the example of R256. -/
theorem test_shrR8Imm :
    runs 0 [0x86, 0x11, 0x01] [(.ax, 0x0100)] [] (fl 0 0 0 0) [(.ax, 0x0000)] [] (fl 1 1 0 0) 0x0003 .running = true := by decide

/-- `SHR r8,CL`: the example of R257. -/
theorem test_shrR8Cl :
    runs 0 [0x87, 0x14, 0x14] [(.cx, 0x0003)] [] (fl 0 0 0 0) [(.cx, 0x0000)] [] (fl 0 1 0 0) 0x0003 .running = true := by decide

/-- `SAR r16,imm8`: the example of R258. -/
theorem test_sarR16Imm :
    runs 0 [0x88, 0x00, 0x01] [(.ax, 0x8001)] [] (fl 0 0 0 1) [(.ax, 0xC000)] [] (fl 1 0 1 0) 0x0003 .running = true := by decide

/-- `SAR r16,imm8`: vector H22. -/
theorem test_sarR16Imm_2 :
    runs 0 [0x88, 0x00, 0x00] [(.ax, 0x8000)] [] (fl 0 0 0 1) [] [] (fl 0 0 0 1) 0x0003 .running = true := by decide

/-- `SAR r16,CL`: the example of R259. -/
theorem test_sarR16Cl :
    runs 0 [0x89, 0x00, 0x14] [(.ax, 0x8000), (.cx, 0x0014)] [] (fl 0 0 0 1) [(.ax, 0xFFFF)] [] (fl 1 0 1 0) 0x0003 .running = true := by decide

/-- `SAR r8,imm8`: the example of R260. -/
theorem test_sarR8Imm :
    runs 0 [0x8A, 0x10, 0x02] [(.ax, 0x0006)] [] (fl 0 0 0 0) [(.ax, 0x0001)] [] (fl 1 0 0 0) 0x0003 .running = true := by decide

/-- `SAR r8,CL`: the example of R261. -/
theorem test_sarR8Cl :
    runs 0 [0x8B, 0x13, 0x14] [(.bx, 0x9000), (.cx, 0x0001)] [] (fl 0 0 0 0) [(.bx, 0xC800)] [] (fl 0 0 1 0) 0x0003 .running = true := by decide

/-- `SAR r8,CL`: vector H29. -/
theorem test_sarR8Cl_2 :
    runs 0 [0x8B, 0x15, 0x14] [(.cx, 0x8007)] [] (fl 0 0 0 0) [(.cx, 0xFF07)] [] (fl 0 0 1 0) 0x0003 .running = true := by decide

/-- `ROL r16,imm8`: the example of R262. -/
theorem test_rolR16Imm :
    runs 0 [0x8C, 0x00, 0x01] [(.ax, 0x8000)] [] (fl 0 0 0 0) [(.ax, 0x0001)] [] (fl 1 0 0 1) 0x0003 .running = true := by decide

/-- `ROL r16,CL`: the example of R263. -/
theorem test_rolR16Cl :
    runs 0 [0x8D, 0x00, 0x14] [(.ax, 0x8001), (.cx, 0x0011)] [] (fl 0 0 0 0) [(.ax, 0x0003)] [] (fl 1 0 0 1) 0x0003 .running = true := by decide

/-- `ROL r16,CL`: vector H34. -/
theorem test_rolR16Cl_2 :
    runs 0 [0x8D, 0x00, 0x14] [(.ax, 0x4000), (.cx, 0x0011)] [] (fl 0 0 0 0) [(.ax, 0x8000)] [] (fl 0 0 0 1) 0x0003 .running = true := by decide

/-- `ROL r8,imm8`: the example of R264. -/
theorem test_rolR8Imm :
    runs 0 [0x8E, 0x10, 0x04] [(.ax, 0x00A5)] [] (fl 0 1 0 1) [(.ax, 0x005A)] [] (fl 0 1 0 1) 0x0003 .running = true := by decide

/-- `ROL r8,CL`: the example of R265. -/
theorem test_rolR8Cl :
    runs 0 [0x8F, 0x10, 0x14] [(.ax, 0x0081), (.cx, 0x0008)] [] (fl 0 0 0 1) [] [] (fl 1 0 0 1) 0x0003 .running = true := by decide

/-- `ROL r8,CL`: vector H37. -/
theorem test_rolR8Cl_2 :
    runs 0 [0x8F, 0x10, 0x14] [(.ax, 0x0040), (.cx, 0x0009)] [] (fl 0 0 0 0) [(.ax, 0x0080)] [] (fl 0 0 0 1) 0x0003 .running = true := by decide

/-- `ROR r16,imm8`: the example of R266. -/
theorem test_rorR16Imm :
    runs 0 [0x90, 0x00, 0x01] [(.ax, 0x0001)] [] (fl 0 0 0 0) [(.ax, 0x8000)] [] (fl 1 0 0 1) 0x0003 .running = true := by decide

/-- `ROR r16,CL`: the example of R267. -/
theorem test_rorR16Cl :
    runs 0 [0x91, 0x01, 0x14] [(.bx, 0x1234), (.cx, 0x0004)] [] (fl 0 0 0 0) [(.bx, 0x4123)] [] (fl 0 0 0 0) 0x0003 .running = true := by decide

/-- `ROR r16,CL`: vector H41. -/
theorem test_rorR16Cl_2 :
    runs 0 [0x91, 0x01, 0x14] [(.bx, 0x0002), (.cx, 0x0021)] [] (fl 0 0 0 1) [(.bx, 0x0001)] [] (fl 0 0 0 0) 0x0003 .running = true := by decide

/-- `ROR r8,imm8`: the example of R268. -/
theorem test_rorR8Imm :
    runs 0 [0x92, 0x10, 0x01] [(.ax, 0x0002)] [] (fl 1 0 0 1) [(.ax, 0x0001)] [] (fl 0 0 0 0) 0x0003 .running = true := by decide

/-- `ROR r8,CL`: the example of R269. -/
theorem test_rorR8Cl :
    runs 0 [0x93, 0x16, 0x14] [(.cx, 0x0009), (.dx, 0x0001)] [] (fl 0 0 0 0) [(.dx, 0x0080)] [] (fl 1 0 0 1) 0x0003 .running = true := by decide

/-- `ROR r8,CL`: vector H43. -/
theorem test_rorR8Cl_2 :
    runs 0 [0x93, 0x17, 0x14] [(.cx, 0x0002), (.dx, 0x0100)] [] (fl 0 0 0 1) [(.dx, 0x4000)] [] (fl 0 0 0 1) 0x0003 .running = true := by decide

/-- `RCL r16,imm8`: the example of R270. -/
theorem test_rclR16Imm :
    runs 0 [0x94, 0x00, 0x01] [(.ax, 0x8000)] [] (fl 1 0 0 0) [(.ax, 0x0001)] [] (fl 1 0 0 1) 0x0003 .running = true := by decide

/-- `RCL r16,imm8`: vector H46. -/
theorem test_rclR16Imm_2 :
    runs 0 [0x94, 0x00, 0x11] [(.ax, 0x1234)] [] (fl 1 0 0 0) [] [] (fl 1 0 0 0) 0x0003 .running = true := by decide

/-- `RCL r16,CL`: the example of R271. -/
theorem test_rclR16Cl :
    runs 0 [0x95, 0x00, 0x14] [(.ax, 0x0001), (.cx, 0x0011)] [] (fl 0 0 0 0) [] [] (fl 0 0 0 0) 0x0003 .running = true := by decide

/-- `RCL r16,CL`: vector H47. -/
theorem test_rclR16Cl_2 :
    runs 0 [0x95, 0x00, 0x14] [(.ax, 0x1234), (.cx, 0x0011)] [] (fl 1 0 0 0) [] [] (fl 1 0 0 1) 0x0003 .running = true := by decide

/-- `RCL r8,imm8`: the example of R272. -/
theorem test_rclR8Imm :
    runs 0 [0x96, 0x10, 0x09] [(.ax, 0x00A5)] [] (fl 1 0 0 0) [] [] (fl 1 0 0 0) 0x0003 .running = true := by decide

/-- `RCL r8,CL`: the example of R273. -/
theorem test_rclR8Cl :
    runs 0 [0x97, 0x12, 0x14] [(.bx, 0x0040), (.cx, 0x0002)] [] (fl 1 0 0 0) [(.bx, 0x0002)] [] (fl 1 0 0 0) 0x0003 .running = true := by decide

/-- `RCL r8,CL`: vector H49. -/
theorem test_rclR8Cl_2 :
    runs 0 [0x97, 0x12, 0x14] [(.bx, 0x0001), (.cx, 0x0009)] [] (fl 1 0 0 0) [] [] (fl 1 0 0 1) 0x0003 .running = true := by decide

/-- `RCR r16,imm8`: the example of R274. -/
theorem test_rcrR16Imm :
    runs 0 [0x98, 0x00, 0x01] [(.ax, 0x0001)] [] (fl 1 0 0 0) [(.ax, 0x8000)] [] (fl 1 0 0 1) 0x0003 .running = true := by decide

/-- `RCR r16,imm8`: vector H52. -/
theorem test_rcrR16Imm_2 :
    runs 0 [0x98, 0x00, 0x02] [(.ax, 0x0001)] [] (fl 1 0 0 0) [(.ax, 0xC000)] [] (fl 0 0 0 0) 0x0003 .running = true := by decide

/-- `RCR r16,CL`: the example of R275. -/
theorem test_rcrR16Cl :
    runs 0 [0x99, 0x00, 0x14] [(.ax, 0x0003), (.cx, 0x0002)] [] (fl 0 0 0 0) [(.ax, 0x8000)] [] (fl 1 0 0 0) 0x0003 .running = true := by decide

/-- `RCR r8,imm8`: the example of R276. -/
theorem test_rcrR8Imm :
    runs 0 [0x9A, 0x10, 0x01] [(.ax, 0x0080)] [] (fl 0 0 0 0) [(.ax, 0x0040)] [] (fl 0 0 0 1) 0x0003 .running = true := by decide

/-- `RCR r8,CL`: the example of R277. -/
theorem test_rcrR8Cl :
    runs 0 [0x9B, 0x11, 0x14] [(.ax, 0x0100), (.cx, 0x0001)] [] (fl 0 0 0 0) [(.ax, 0x0000)] [] (fl 1 0 0 0) 0x0003 .running = true := by decide

/-- `RCR r8,CL`: vector H55. -/
theorem test_rcrR8Cl_2 :
    runs 0 [0x9B, 0x14, 0x14] [(.cx, 0x0001)] [] (fl 1 0 0 0) [(.cx, 0x0080)] [] (fl 1 0 0 1) 0x0003 .running = true := by decide


/-! ## Faults (60_exceptions.md R331, R332; vectors M33 to M35, C32, Y4) -/

theorem test_fault_unassigned :
    runs 0x0123 [0xFF, 0x09] [] [] (fl 0 0 0 0) [] [] (fl 0 0 0 0) 0x0123 (.faulted (.unknownOpcode 0xFF 0x0123)) = true := by
  decide
theorem test_fault_bad_source :
    runs 0 [0x20, 0x00, 0x09] [] [] (fl 0 0 0 0) [] [] (fl 0 0 0 0) 0 (.faulted (.badRegister 0x09 0x0000)) = true := by decide
theorem test_fault_register_code_for_view :
    runs 0 [0x21, 0x00, 0x10] [] [] (fl 0 0 0 0) [] [] (fl 0 0 0 0) 0 (.faulted (.badRegister 0x00 0x0000)) = true := by decide
theorem test_fault_lowest_of_three :
    runs 0 [0x28, 0x0A, 0x0B, 0x0C] [] [] (fl 0 0 0 0) [] [] (fl 0 0 0 0) 0 (.faulted (.badRegister 0x0A 0x0000)) = true := by
  decide
theorem test_fault_push_of_view :
    runs 0 [0x66, 0x10] [] [] (fl 0 0 0 0) [] [] (fl 0 0 0 0) 0 (.faulted (.badRegister 0x10 0x0000)) = true := by decide

/-! ## The encoder (30_encoding.md R90 to R106) -/

/-- The worked example of R106. -/
theorem test_assemble_worked_example :
    Asm.assembleResult ["JMP skip".toList, "MOV AX,1".toList, "skip:".toList, "HALT".toList] =
      ⟨[0x10, 0x07, 0x00, 0x22, 0x00, 0x01, 0x00, 0x01], none⟩ := by decide
/-- A byte-sized immediate takes the byte store, a larger one the word store (R99). -/
theorem test_assemble_store_forms :
    Asm.assembleResult ["MOV [0x0200],255".toList, "MOV [200h],256".toList] =
      ⟨[0x30, 0x00, 0x02, 0xFF, 0x31, 0x00, 0x02, 0x00, 0x01], none⟩ := by decide
/-- The first error, with its line, and no code (R102). -/
theorem test_assemble_error :
    Asm.assembleResult ["HALT".toList, "ADD AX,BL".toList, "FOO".toList] = ⟨[], some (.wrongOperands, 2)⟩ := by decide
/-- The first error is that of line 2 (R102), whatever length pass 1 assumes for that line (R104). -/
theorem test_assemble_error_behind_a_jump :
    Asm.assembleResult ["JMP end".toList, "FOO".toList, "end:".toList] = ⟨[], some (.unknownMnemonic, 2)⟩ := by rfl
theorem test_classify_pair : Asm.classify " [ bx + Si ] ".toList = .memPair .bx .si := by decide
theorem test_classify_view_in_brackets : Asm.classify "[AL]".toList = .noClass := by decide
theorem test_classify_hex_suffix : Asm.classify "0FFh".toList = .imm 255 := by decide

/-! ## Witnesses of the obligations' hypotheses -/

/-- `MOV BX,AX` at address 0 of the reset machine. -/
def movState : State := start 0 [0x20, 0x01, 0x00] [] [] (fl 0 0 0 0)

theorem test_witness_StepRunsDecodedInstruction :
    movState.rs = .running ∧ decodeFrom movState.fetch8 = .ok (.movR16R16 .bx .ax) := ⟨rfl, rfl⟩

theorem test_witness_StepRunsInstructionBytesAtIp :
    (start 0xFFFF (encode (.popR16 .di)) [] [] (fl 0 0 0 0)).rs = .running ∧
      BytesAtIp (start 0xFFFF (encode (.popR16 .di)) [] [] (fl 0 0 0 0)) (encode (.popR16 .di)) := by
  unfold BytesAtIp; decide

theorem test_witness_StepRunsPlacedTableWord : decodeTableWord 24 0x000120 = some (.movR16R16 .bx .ax) := by decide

theorem test_witness_UnassignedOpcodeFaults :
    State.reset.rs = .running ∧ opMap (State.reset.mem8 State.reset.ip) = none ∧
      (opMap 0xFF = none ∧ ((fun _ => 0xFF : FetchFn) 0 = (fun k => if k = 0 then 0xFF else 0x01 : FetchFn) 0)) := by decide

/-- Two bad codes; the lowest, 0x0A, is reported. -/
theorem test_witness_BadRegisterFaultsPrecisely :
    (start 0 [0x28, 0x00, 0x0A, 0x0B] [] [] (fl 0 0 0 0)).rs = .running ∧
      (start 0 [0x28, 0x00, 0x0A, 0x0B] [] [] (fl 0 0 0 0)).mem8 0 = Variant.opcode .movR16Pair ∧
      firstBadByte (Variant.layout .movR16Pair)
        (operandBytes (start 0 [0x28, 0x00, 0x0A, 0x0B] [] [] (fl 0 0 0 0)).fetch8 .movR16Pair) = some 0x0A := by decide

/-- The last code of each set is admitted, the one after it is not. -/
theorem test_witness_DecodeFollowsLayout :
    firstBadByte (Variant.layout .incR16) (operandBytes (fun k => [0x60, 0x08].getD k 0) .incR16) = none ∧
      firstBadByte (Variant.layout .incR16) (operandBytes (fun k => [0x60, 0x09].getD k 0) .incR16) = some 0x09 ∧
      firstBadByte (Variant.layout .incR8) (operandBytes (fun k => [0x61, 0x19].getD k 0) .incR8) = none ∧
      firstBadByte (Variant.layout .incR8) (operandBytes (fun k => [0x61, 0x1A].getD k 0) .incR8) = some 0x1A ∧
      ([.ax, .bx, .cx, .dx, .ex, .sp, .bp, .si, .di] : List Reg16)[8]? = some .di ∧
      ([.al, .ah, .bl, .bh, .cl, .ch, .dl, .dh, .el, .eh] : List Reg8)[9]? = some .eh := by decide

theorem test_witness_TerminalStatesAreStuck :
    { State.reset with rs := .halted }.rs ≠ .running ∧
      (State.reset.raise (.unknownOpcode 0x00 0x0000)).rs ≠ .running := by decide

theorem test_witness_RunStateChangesOnlyByHaltOrFault :
    decodeFrom (start 0 [0x01] [] [] (fl 0 0 0 0)).fetch8 = .ok .halt ∧
      decodeFrom State.reset.fetch8 = .error (.unknownOpcode 0x00) ∧
      decodeFrom movState.fetch8 = .ok (.movR16R16 .bx .ax) ∧ Instr.movR16R16 .bx .ax ≠ .halt ∧
      { State.reset with rs := .halted }.apply (.run 3) = .next { State.reset with rs := .halted } :=
  ⟨rfl, rfl, rfl, by decide, rfl⟩

/-- The machine right after it executed HALT at address 0. -/
def haltedState : State := { start 0 [0x01] [] [] (fl 0 0 0 0) with ip := 1, rs := .halted }

/-- The invariant holds of a running and of a halted machine that step. -/
theorem test_witness_StepKeepsInv :
    (Inv movState ∧ ∃ t, step movState = .next t) ∧ (Inv haltedState ∧ step haltedState = .next haltedState) :=
  ⟨⟨⟨by decide, trivial⟩, _, rfl⟩, ⟨by decide, show haltedState.mem8 (haltedState.ip - 1) = Variant.opcode .halt by decide⟩, rfl⟩

theorem test_witness_FirstInstructionIsAtAddressZero :
    State.reset.load [0x01] = some (start 0 [0x01] [] [] (fl 0 0 0 0)) ∧
      decodeFrom (fun k => (start 0 [0x01] [] [] (fl 0 0 0 0)).mem8 (BitVec.ofNat 16 k)) = .ok .halt := ⟨by decide, rfl⟩

/-- Both sides of the limit: images of 65,536 and of 65,537 bytes. -/
theorem test_witness_LoadReplacesImageBytes :
    (List.replicate 65536 (0x01 : Byte)).length ≤ 65536 ∧ 65536 < (List.replicate 65537 (0x01 : Byte)).length :=
  ⟨Nat.le_of_eq List.length_replicate, Nat.lt_of_lt_of_eq (by decide) List.length_replicate.symm⟩

theorem test_witness_RunRepeatsStep :
    (State.reset.rs = .running ∧ step State.reset = .next (State.reset.raise (.unknownOpcode 0x00 0x0000))) ∧
      (haltedState.rs ≠ .running ∧ runFor 2 haltedState = .next haltedState) ∧
      (start 0 [0x10, 0x00, 0x00] [] [] (fl 0 0 0 0)).rs = .running ∧
      BytesAtIp (start 0 [0x10, 0x00, 0x00] [] [] (fl 0 0 0 0))
        (encode (.jmp (start 0 [0x10, 0x00, 0x00] [] [] (fl 0 0 0 0)).ip)) :=
  ⟨⟨rfl, rfl⟩, ⟨by decide, rfl⟩, rfl, by unfold BytesAtIp; decide⟩

/-- A store of 0x00, unassigned, just behind the storing instruction. -/
theorem test_witness_StoreIsSeenByNextFetch :
    (start 0 [0x30, 0x04, 0x00, 0x00] [] [] (fl 0 0 0 0)).rs = .running ∧
      BytesAtIp (start 0 [0x30, 0x04, 0x00, 0x00] [] [] (fl 0 0 0 0))
        (encode (.movMemImm8 ((start 0 [0x30, 0x04, 0x00, 0x00] [] [] (fl 0 0 0 0)).ip + 4) 0x00)) ∧
      opMap 0x00 = none := by unfold BytesAtIp; decide

/-- A shift by CL with another byte in its last place, and the place it has in the layout. -/
theorem test_witness_DecodeThenEncode :
    decodeFrom (fun k => [0x83, 0x16, 0x99].getD k 0) = .ok (.shlR8Cl .dl) ∧
      (Variant.layout .shlR8Cl)[1]? = some .ignored ∧ (Variant.layout .shlR8Cl)[0]? = some .code8 := ⟨rfl, rfl, rfl⟩

theorem test_witness_LengthIsDecidedByOpcode :
    decodeBytes [0x60, 0x00, 0x01] = .ok (.incR16 .ax, [0x01]) ∧ (Instr.incR16 .ax).variant.format ≠ .a ∧
      Instr.incR16 .ax ≠ .ret ∧ Instr.incR16 .ax ≠ .halt := ⟨rfl, by decide, by decide, by decide⟩

theorem test_witness_ClShiftSecondByteIsIgnored :
    (fun k => [0x83, 0x16, 0x99].getD k 0 : FetchFn) 0 = Variant.opcode .shlR8Cl ∧
      (Variant.layout .shlR8Cl)[1]? = some .ignored ∧
      ∀ k, k ≠ 2 → (fun k => [0x83, 0x16, 0x99].getD k 0 : FetchFn) k = (fun k => [0x83, 0x16, 0x14].getD k 0 : FetchFn) k := by
  refine ⟨rfl, rfl, fun k h => ?_⟩
  match k, h with
  | 0, _ => rfl
  | 1, _ => rfl
  | k + 3, _ => rfl

theorem test_witness_EncoderAndDecoderAgree :
    Asm.encodeLine (fun _ => none) "shl".toList ["AX".toList, "CL".toList] = .ok [0x81, 0x00, 0x14] ∧
      (Variant.layout .shlR16Cl)[1]? = some .ignored ∧ firstBadByte (Variant.layout .shlR16Cl) [0x00, 0x15] = none ∧
      (0x15 : Byte) ≠ 0x14 := ⟨by rfl, by decide, by decide, by decide⟩

theorem test_witness_PassOneLengthMatchesEmission :
    Asm.encodeLine (fun _ => some 0x0300) "JMP".toList ["far".toList] = .ok [0x10, 0x00, 0x03] := by rfl

theorem test_witness_LabelAddressIsWhereItsCodeStands :
    Asm.parseLine "skip:".toList = .label "skip".toList ∧
      Asm.assemble (["JMP skip".toList] ++ "skip:".toList :: ["HALT".toList]) = .ok [0x10, 0x03, 0x00, 0x01] := ⟨by decide, by rfl⟩

/-- A label defined twice, and the line before the second definition assembles. -/
theorem test_witness_LabelAddressIsWhereItsCodeStands_twice :
    Asm.parseLine "a :".toList = .label "a".toList ∧ Asm.parseLine "a: ; again".toList = .label "a".toList ∧
      Asm.pass2 (Asm.lookup (Asm.labelTable 1 0 ["a :".toList, "JMP a".toList, "a: ; again".toList])) 1 []
        ["a :".toList, "JMP a".toList] = .ok [0x10, 0x00, 0x00] := ⟨by decide, by decide, by rfl⟩

/-- Two label maps that differ in the address, and a program with an error in its second line. -/
theorem test_witness_AssemblyErrorDoesNotDependOnAddresses :
    (∀ name : Asm.Text, ((fun _ => some 0 : Asm.Labels) name).isSome = ((fun _ => some 0x10000 : Asm.Labels) name).isSome) ∧
      Asm.pass2 (fun _ => some 0) 1 [] ["JMP end".toList, "FOO".toList] = .error (.unknownMnemonic, 2) := ⟨fun _ => rfl, by rfl⟩

/-- The last place of each part of the opcode map. -/
theorem test_witness_AssignedOpcodes :
    jumpVariants[9]? = some .jno ∧ moveVariants[19]? = some .xchgR8R8 ∧
      (aluVariants[7]? = some [.xorR16R16, .xorR8R8, .xorR16Imm, .xorR8Imm] ∧
        ([.xorR16R16, .xorR8R8, .xorR16Imm, .xorR8Imm] : List Variant)[3]? = some .xorR8Imm) ∧
      unaryVariants[7]? = some .popR16 ∧
      shiftVariants[6]? = some [.rcrR16Imm, .rcrR16Cl, .rcrR8Imm, .rcrR8Cl] ∧
        ([.rcrR16Imm, .rcrR16Cl, .rcrR8Imm, .rcrR8Cl] : List Variant)[3]? = some .rcrR8Cl := by decide

theorem test_witness_ShiftByZeroChangesOnlyIp : State.reset.get8 .cl = 0 := by decide

end Sys2Proof.Tests
end

section
/-! SUPPORT. What each operation of the host and each instruction does to the run state RS (10_state.md R21; 60_exceptions.md
R345 to R348). -/

namespace Sys2Proof.Proofs.RunState

open Sys2Proof.Machine

/-! ## One instruction -/

@[simp] theorem branchIf_rs (s : State) (taken : Bool) (target : Addr) : (s.branchIf taken target).rs = s.rs := by
  cases taken <;> rfl

theorem exec_halt_rs (s : State) : ∃ t, exec .halt s = .next t ∧ t.rs = .halted := ⟨_, rfl, rfl⟩

/-- HALT is the only instruction that writes RS: every other one is a chain of operations on the other fields. -/
theorem exec_rs_of_ne_halt {i : Instr} (s : State) (h : i ≠ .halt) : ∃ t, exec i s = .next t ∧ t.rs = s.rs := by
  cases i with
  | halt => exact absurd rfl h
  | jz | jnz | jc | jnc | js | jns | jo | jno => exact ⟨_, rfl, branchIf_rs s _ _⟩
  | _ => exact ⟨_, rfl, rfl⟩

/-! ## The host operations -/

/-- A load, refused or not, writes memory alone (60_exceptions.md R346). -/
theorem load_getD_rs (s : State) (image : List Byte) : ((s.load image).getD s).rs = s.rs := by
  unfold State.load
  split
  · exact storeBytes_rs s 0 image
  · rfl

/-- A run that begins in a terminal state takes no step (60_exceptions.md R348). -/
theorem runFor_terminal {s : State} (h : s.rs ≠ .running) (n : Nat) : runFor n s = .next s := by
  cases n with
  | zero => rfl
  | succ n =>
    unfold runFor
    split
    · next running => exact absurd running h
    · rfl
    · rfl

theorem apply_rs_of_terminal {s t : State} {op : HostOp} (terminal : s.rs ≠ .running) (notReset : op ≠ .reset)
    (answers : s.apply op = .next t) : t.rs = s.rs := by
  cases op with
  | reset => exact absurd rfl notReset
  | load image =>
    obtain rfl := Host.Outcome.next.inj answers
    exact load_getD_rs s image
  | step =>
    obtain rfl := Host.Outcome.next.inj ((step_terminal terminal).symm.trans answers)
    rfl
  | run bound =>
    obtain rfl := Host.Outcome.next.inj ((runFor_terminal terminal bound).symm.trans answers)
    rfl

/-! ## The transitions of RS -/

/-- Settles O9: from Running by the one instruction or fault that the decoder answers, from a terminal state by the host
operation. -/
theorem runStateChangesOnlyByHaltOrFault : Obligations.RunStateChangesOnlyByHaltOrFault := by
  refine ⟨⟨rfl, rfl⟩, fun s running decoded => ?halt, fun s e running fails => ?fault,
    fun s i running decoded notHalt => ?other, fun _ _ _ => apply_rs_of_terminal, fun _ => rfl⟩
  case halt =>
    rw [step_decoded running decoded]
    exact exec_halt_rs s
  case fault => exact ⟨_, step_decode_fault running fails, takeFault_rs s e⟩
  case other =>
    rw [step_decoded running decoded, ← running]
    exact exec_rs_of_ne_halt s notHalt

end Sys2Proof.Proofs.RunState
end

section
/-! SUPPORT. What the decoder reads back from bytes the encoder wrote, and how many bytes an instruction takes (30_encoding.md
R71 to R75, R85 to R89). -/

namespace Sys2Proof.Proofs.Encoding

open Sys2Proof.Machine

/-! ## Field readers -/

theorem thenDecode_eq_ok_iff {α β : Type} {e : Except DecodeFault α} {next : α → Except DecodeFault β} {y : β} :
    thenDecode e next = .ok y ↔ ∃ x, e = .ok x ∧ next x = .ok y :=
  ⟨thenDecode_eq_ok, fun ⟨_, he, hy⟩ => by rw [he, thenDecode_ok, hy]⟩

theorem fetchReg16_eq_ok_iff {f : FetchFn} {k : Nat} {r : Reg16} : fetchReg16 f k = .ok r ↔ f k = r.code := by
  refine ⟨fun h => ?_, fetchReg16_of_code⟩
  obtain ⟨q, hq, hok⟩ | ⟨-, herr⟩ := fetchReg16_cases f k
  · cases h.symm.trans hok
    exact hq
  · cases h.symm.trans herr

theorem fetchReg8_eq_ok_iff {f : FetchFn} {k : Nat} {r : Reg8} : fetchReg8 f k = .ok r ↔ f k = r.code := by
  refine ⟨fun h => ?_, fetchReg8_of_code⟩
  obtain ⟨q, hq, hok⟩ | ⟨-, herr⟩ := fetchReg8_cases f k
  · cases h.symm.trans hok
    exact hq
  · cases h.symm.trans herr

/-! ## Operand layouts: each decodes exactly the codes of registers, in address order -/

theorem operandsR16_eq_ok_iff {f : FetchFn} {mk : Reg16 → Instr} {i : Instr} :
    operandsR16 f mk = .ok i ↔ ∃ p : Reg16, f 1 = p.code ∧ mk p = i := by
  simp [operandsR16, thenDecode_eq_ok_iff, fetchReg16_eq_ok_iff]

theorem operandsR8_eq_ok_iff {f : FetchFn} {mk : Reg8 → Instr} {i : Instr} :
    operandsR8 f mk = .ok i ↔ ∃ p : Reg8, f 1 = p.code ∧ mk p = i := by
  simp [operandsR8, thenDecode_eq_ok_iff, fetchReg8_eq_ok_iff]

theorem operandsR16R16_eq_ok_iff {f : FetchFn} {mk : Reg16 → Reg16 → Instr} {i : Instr} :
    operandsR16R16 f mk = .ok i ↔ ∃ p q : Reg16, f 1 = p.code ∧ f 2 = q.code ∧ mk p q = i := by
  simp [operandsR16R16, thenDecode_eq_ok_iff, fetchReg16_eq_ok_iff]

theorem operandsR8R8_eq_ok_iff {f : FetchFn} {mk : Reg8 → Reg8 → Instr} {i : Instr} :
    operandsR8R8 f mk = .ok i ↔ ∃ p q : Reg8, f 1 = p.code ∧ f 2 = q.code ∧ mk p q = i := by
  simp [operandsR8R8, thenDecode_eq_ok_iff, fetchReg8_eq_ok_iff]

theorem operandsR8R16_eq_ok_iff {f : FetchFn} {mk : Reg8 → Reg16 → Instr} {i : Instr} :
    operandsR8R16 f mk = .ok i ↔ ∃ (p : Reg8) (q : Reg16), f 1 = p.code ∧ f 2 = q.code ∧ mk p q = i := by
  simp [operandsR8R16, thenDecode_eq_ok_iff, fetchReg8_eq_ok_iff, fetchReg16_eq_ok_iff]

theorem operandsR16R8_eq_ok_iff {f : FetchFn} {mk : Reg16 → Reg8 → Instr} {i : Instr} :
    operandsR16R8 f mk = .ok i ↔ ∃ (p : Reg16) (q : Reg8), f 1 = p.code ∧ f 2 = q.code ∧ mk p q = i := by
  simp [operandsR16R8, thenDecode_eq_ok_iff, fetchReg8_eq_ok_iff, fetchReg16_eq_ok_iff]

theorem operandsR16R16R16_eq_ok_iff {f : FetchFn} {mk : Reg16 → Reg16 → Reg16 → Instr} {i : Instr} :
    operandsR16R16R16 f mk = .ok i ↔
      ∃ p q u : Reg16, f 1 = p.code ∧ f 2 = q.code ∧ f 3 = u.code ∧ mk p q u = i := by
  simp [operandsR16R16R16, thenDecode_eq_ok_iff, fetchReg16_eq_ok_iff]

theorem operandsR8R16R16_eq_ok_iff {f : FetchFn} {mk : Reg8 → Reg16 → Reg16 → Instr} {i : Instr} :
    operandsR8R16R16 f mk = .ok i ↔
      ∃ (p : Reg8) (q u : Reg16), f 1 = p.code ∧ f 2 = q.code ∧ f 3 = u.code ∧ mk p q u = i := by
  simp [operandsR8R16R16, thenDecode_eq_ok_iff, fetchReg8_eq_ok_iff, fetchReg16_eq_ok_iff]

theorem operandsR16R16R8_eq_ok_iff {f : FetchFn} {mk : Reg16 → Reg16 → Reg8 → Instr} {i : Instr} :
    operandsR16R16R8 f mk = .ok i ↔
      ∃ (p q : Reg16) (u : Reg8), f 1 = p.code ∧ f 2 = q.code ∧ f 3 = u.code ∧ mk p q u = i := by
  simp [operandsR16R16R8, thenDecode_eq_ok_iff, fetchReg8_eq_ok_iff, fetchReg16_eq_ok_iff]

theorem operandsR16Byte_eq_ok_iff {f : FetchFn} {mk : Reg16 → Byte → Instr} {i : Instr} :
    operandsR16Byte f mk = .ok i ↔ ∃ p : Reg16, f 1 = p.code ∧ mk p (f 2) = i := by
  simp [operandsR16Byte, thenDecode_eq_ok_iff, fetchReg16_eq_ok_iff]

theorem operandsR8Byte_eq_ok_iff {f : FetchFn} {mk : Reg8 → Byte → Instr} {i : Instr} :
    operandsR8Byte f mk = .ok i ↔ ∃ p : Reg8, f 1 = p.code ∧ mk p (f 2) = i := by
  simp [operandsR8Byte, thenDecode_eq_ok_iff, fetchReg8_eq_ok_iff]

theorem operandsR16Word_eq_ok_iff {f : FetchFn} {mk : Reg16 → Word → Instr} {i : Instr} :
    operandsR16Word f mk = .ok i ↔ ∃ p : Reg16, f 1 = p.code ∧ mk p (fetchWord f 2) = i := by
  simp [operandsR16Word, thenDecode_eq_ok_iff, fetchReg16_eq_ok_iff]

theorem operandsR8Word_eq_ok_iff {f : FetchFn} {mk : Reg8 → Word → Instr} {i : Instr} :
    operandsR8Word f mk = .ok i ↔ ∃ p : Reg8, f 1 = p.code ∧ mk p (fetchWord f 2) = i := by
  simp [operandsR8Word, thenDecode_eq_ok_iff, fetchReg8_eq_ok_iff]

/-- The operand fields read for a variant give an instruction of that variant. -/
theorem variant_of_decodeOperands {f : FetchFn} {v : Variant} {i : Instr} (h : decodeOperands f v = .ok i) :
    i.variant = v := by
  cases v with
  | halt | ret | jmp | call | jz | jnz | jc | jnc | js | jns | jo | jno | movMemImm8 | movMemImm16 =>
    cases h; rfl
  | movR16R16 | movR16Ind | movIndR16 | xchgR16R16 | addR16R16 | adcR16R16 | subR16R16 | sbbR16R16 | cmpR16R16
  | andR16R16 | orR16R16 | xorR16R16 =>
    obtain ⟨p, q, -, -, rfl⟩ := operandsR16R16_eq_ok_iff.mp h; rfl
  | movR8R8 | xchgR8R8 | addR8R8 | adcR8R8 | subR8R8 | sbbR8R8 | cmpR8R8 | andR8R8 | orR8R8 | xorR8R8 =>
    obtain ⟨p, q, -, -, rfl⟩ := operandsR8R8_eq_ok_iff.mp h; rfl
  | movR16Imm | movR16Mem | movMemR16 | addR16Imm | adcR16Imm | subR16Imm | sbbR16Imm | cmpR16Imm | andR16Imm
  | orR16Imm | xorR16Imm =>
    obtain ⟨p, -, rfl⟩ := operandsR16Word_eq_ok_iff.mp h; rfl
  | movR8Imm | addR8Imm | adcR8Imm | subR8Imm | sbbR8Imm | cmpR8Imm | andR8Imm | orR8Imm | xorR8Imm | shlR8Imm
  | shrR8Imm | sarR8Imm | rolR8Imm | rorR8Imm | rclR8Imm | rcrR8Imm =>
    obtain ⟨p, -, rfl⟩ := operandsR8Byte_eq_ok_iff.mp h; rfl
  | shlR16Imm | shrR16Imm | sarR16Imm | rolR16Imm | rorR16Imm | rclR16Imm | rcrR16Imm =>
    obtain ⟨p, -, rfl⟩ := operandsR16Byte_eq_ok_iff.mp h; rfl
  | movR8Mem | movMemR8 =>
    obtain ⟨p, -, rfl⟩ := operandsR8Word_eq_ok_iff.mp h; rfl
  | movR16Pair | movPairR16 =>
    obtain ⟨p, q, u, -, -, -, rfl⟩ := operandsR16R16R16_eq_ok_iff.mp h; rfl
  | movR8Pair =>
    obtain ⟨p, q, u, -, -, -, rfl⟩ := operandsR8R16R16_eq_ok_iff.mp h; rfl
  | movPairR8 =>
    obtain ⟨p, q, u, -, -, -, rfl⟩ := operandsR16R16R8_eq_ok_iff.mp h; rfl
  | movR8Ind =>
    obtain ⟨p, q, -, -, rfl⟩ := operandsR8R16_eq_ok_iff.mp h; rfl
  | movIndR8 =>
    obtain ⟨p, q, -, -, rfl⟩ := operandsR16R8_eq_ok_iff.mp h; rfl
  | incR16 | decR16 | notR16 | pushR16 | popR16 | shlR16Cl | shrR16Cl | sarR16Cl | rolR16Cl | rorR16Cl | rclR16Cl
  | rcrR16Cl =>
    obtain ⟨p, -, rfl⟩ := operandsR16_eq_ok_iff.mp h; rfl
  | incR8 | decR8 | notR8 | shlR8Cl | shrR8Cl | sarR8Cl | rolR8Cl | rorR8Cl | rclR8Cl | rcrR8Cl =>
    obtain ⟨p, -, rfl⟩ := operandsR8_eq_ok_iff.mp h; rfl

/-! ## The decoder on a list of bytes -/

/-- All that a list of bytes that decodes is: an opcode, enough bytes for its fixed length, and operand fields that are read
(30_encoding.md R73, R75). -/
theorem decodeBytes_eq_ok_iff {bs rest : List Byte} {i : Instr} :
    decodeBytes bs = .ok (i, rest) ↔
      ∃ v : Variant, bs.head? = some v.opcode ∧ v.length ≤ bs.length ∧
        decodeOperands (fun k => bs.getD k 0) v = .ok i ∧ rest = bs.drop v.length := by
  cases bs with
  | nil => simp [decodeBytes]
  | cons op bs =>
    constructor
    · intro h
      simp only [decodeBytes] at h
      split at h
      · cases h
      · next v hv =>
        split at h
        · cases h
        · next enough =>
          split at h
          · next decoded =>
            cases h
            exact ⟨v, congrArg some (opcode_of_opMap hv).symm, Nat.le_of_not_lt enough, decoded, rfl⟩
          · cases h
    · rintro ⟨v, opcode, enough, decoded, rfl⟩
      obtain rfl := Option.some.inj opcode
      simp only [decodeBytes, opMap_opcode, Nat.not_lt.mpr enough, if_false, decoded]

/-! ## The decoder on what the encoder wrote -/

/-- The bytes of every instruction: its opcode first, as many as the opcode says, register codes where its layout has them. -/
theorem encodedLength (i : Instr) : Laws.EncodedLength.Statement i := by
  open Laws.EncodedLength in
  cases i <;> simp only [halt, ret, jmp, call, jz, jnz, jc, jnc, js, jns, jo, jno, movR16R16, movR8R8, movR16Imm, movR8Imm,
    movR16Mem, movMemR16, movR16Ind, movIndR16, movR16Pair, movPairR16, movR8Mem, movMemR8, movR8Ind, movIndR8, movR8Pair,
    movPairR8, movMemImm8, movMemImm16, xchgR16R16, xchgR8R8, addR16R16, addR8R8, addR16Imm, addR8Imm, adcR16R16, adcR8R8,
    adcR16Imm, adcR8Imm, subR16R16, subR8R8, subR16Imm, subR8Imm, sbbR16R16, sbbR8R8, sbbR16Imm, sbbR8Imm, cmpR16R16,
    cmpR8R8, cmpR16Imm, cmpR8Imm, andR16R16, andR8R8, andR16Imm, andR8Imm, orR16R16, orR8R8, orR16Imm, orR8Imm, xorR16R16,
    xorR8R8, xorR16Imm, xorR8Imm, incR16, incR8, decR16, decR8, notR16, notR8, pushR16, popR16, shlR16Imm, shlR16Cl,
    shlR8Imm, shlR8Cl, shrR16Imm, shrR16Cl, shrR8Imm, shrR8Cl, sarR16Imm, sarR16Cl, sarR8Imm, sarR8Cl, rolR16Imm, rolR16Cl,
    rolR8Imm, rolR8Cl, rorR16Imm, rorR16Cl, rorR8Imm, rorR8Cl, rclR16Imm, rclR16Cl, rclR8Imm, rclR8Cl, rcrR16Imm, rcrR16Cl,
    rcrR8Imm, rcrR8Cl]

theorem encode_length (i : Instr) : (encode i).length = i.variant.length := by
  obtain ⟨-, len, -⟩ := encodedLength i
  exact len

theorem encode_head? (i : Instr) : (encode i).head? = some i.variant.opcode := by
  obtain ⟨opcodeFirst, -, -⟩ := encodedLength i
  rw [opcodeFirst]; rfl

/-- The bytes read through `f` begin with `bs`. -/
def Reads (f : FetchFn) (bs : List Byte) : Prop := ∀ k b, bs[k]? = some b → f k = b

theorem reads_of_getElem {f : FetchFn} {bs : List Byte} (h : ∀ k (hk : k < bs.length), f k = bs[k]) : Reads f bs := by
  intro k b hb
  obtain ⟨hk, rfl⟩ := List.getElem?_eq_some_iff.mp hb
  exact h k hk

theorem reads_append (bs rest : List Byte) : Reads (fun k => (bs ++ rest).getD k 0) bs := by
  intro k b hb
  obtain ⟨hk, rfl⟩ := List.getElem?_eq_some_iff.mp hb
  simp [List.getD, List.getElem?_append_left hk, hb]

/-- Every operand field of an encoded instruction is read back (30_encoding.md R103). -/
theorem decodeOperands_of_reads_encode {f : FetchFn} {i : Instr} (h : Reads f (encode i)) :
    decodeOperands f i.variant = .ok i := by
  cases i with
  | halt | ret => rfl
  | jmp | call | jz | jnz | jc | jnc | js | jns | jo | jno =>
    simp only [decodeOperands, Instr.variant, fetchWord_of_bytes (h 1 _ rfl) (h 2 _ rfl)]
  | movMemImm8 =>
    simp only [decodeOperands, Instr.variant, fetchWord_of_bytes (h 1 _ rfl) (h 2 _ rfl), h 3 _ rfl]
  | movMemImm16 =>
    simp only [decodeOperands, Instr.variant, fetchWord_of_bytes (h 1 _ rfl) (h 2 _ rfl),
      fetchWord_of_bytes (h 3 _ rfl) (h 4 _ rfl)]
  | movR16R16 | movR16Ind | movIndR16 | xchgR16R16 | addR16R16 | adcR16R16 | subR16R16 | sbbR16R16 | cmpR16R16
  | andR16R16 | orR16R16 | xorR16R16 =>
    exact operandsR16R16_eq_ok_iff.mpr ⟨_, _, h 1 _ rfl, h 2 _ rfl, rfl⟩
  | movR8R8 | xchgR8R8 | addR8R8 | adcR8R8 | subR8R8 | sbbR8R8 | cmpR8R8 | andR8R8 | orR8R8 | xorR8R8 =>
    exact operandsR8R8_eq_ok_iff.mpr ⟨_, _, h 1 _ rfl, h 2 _ rfl, rfl⟩
  | movR16Imm | movR16Mem | movMemR16 | addR16Imm | adcR16Imm | subR16Imm | sbbR16Imm | cmpR16Imm | andR16Imm
  | orR16Imm | xorR16Imm =>
    exact operandsR16Word_eq_ok_iff.mpr ⟨_, h 1 _ rfl, by rw [fetchWord_of_bytes (h 2 _ rfl) (h 3 _ rfl)]⟩
  | movR8Imm | addR8Imm | adcR8Imm | subR8Imm | sbbR8Imm | cmpR8Imm | andR8Imm | orR8Imm | xorR8Imm | shlR8Imm
  | shrR8Imm | sarR8Imm | rolR8Imm | rorR8Imm | rclR8Imm | rcrR8Imm =>
    exact operandsR8Byte_eq_ok_iff.mpr ⟨_, h 1 _ rfl, by rw [h 2 _ rfl]⟩
  | shlR16Imm | shrR16Imm | sarR16Imm | rolR16Imm | rorR16Imm | rclR16Imm | rcrR16Imm =>
    exact operandsR16Byte_eq_ok_iff.mpr ⟨_, h 1 _ rfl, by rw [h 2 _ rfl]⟩
  | movR8Mem | movMemR8 =>
    exact operandsR8Word_eq_ok_iff.mpr ⟨_, h 1 _ rfl, by rw [fetchWord_of_bytes (h 2 _ rfl) (h 3 _ rfl)]⟩
  | movR16Pair | movPairR16 =>
    exact operandsR16R16R16_eq_ok_iff.mpr ⟨_, _, _, h 1 _ rfl, h 2 _ rfl, h 3 _ rfl, rfl⟩
  | movR8Pair => exact operandsR8R16R16_eq_ok_iff.mpr ⟨_, _, _, h 1 _ rfl, h 2 _ rfl, h 3 _ rfl, rfl⟩
  | movPairR8 => exact operandsR16R16R8_eq_ok_iff.mpr ⟨_, _, _, h 1 _ rfl, h 2 _ rfl, h 3 _ rfl, rfl⟩
  | movR8Ind => exact operandsR8R16_eq_ok_iff.mpr ⟨_, _, h 1 _ rfl, h 2 _ rfl, rfl⟩
  | movIndR8 => exact operandsR16R8_eq_ok_iff.mpr ⟨_, _, h 1 _ rfl, h 2 _ rfl, rfl⟩
  | incR16 | decR16 | notR16 | pushR16 | popR16 | shlR16Cl | shrR16Cl | sarR16Cl | rolR16Cl | rorR16Cl | rclR16Cl
  | rcrR16Cl =>
    exact operandsR16_eq_ok_iff.mpr ⟨_, h 1 _ rfl, rfl⟩
  | incR8 | decR8 | notR8 | shlR8Cl | shrR8Cl | sarR8Cl | rolR8Cl | rorR8Cl | rclR8Cl | rcrR8Cl =>
    exact operandsR8_eq_ok_iff.mpr ⟨_, h 1 _ rfl, rfl⟩

theorem decodeFrom_of_reads_encode {f : FetchFn} {i : Instr} (h : Reads f (encode i)) : decodeFrom f = .ok i := by
  have opcode : f 0 = i.variant.opcode := h 0 _ (by rw [← List.head?_eq_getElem?, encode_head?])
  rw [decodeFrom_of_opcode opcode, decodeOperands_of_reads_encode h]

theorem decodeBytes_encode_append (i : Instr) (rest : List Byte) : decodeBytes (encode i ++ rest) = .ok (i, rest) := by
  refine decodeBytes_eq_ok_iff.mpr
    ⟨i.variant, ?_, ?_, decodeOperands_of_reads_encode (reads_append (encode i) rest), ?_⟩
  · rw [List.head?_append, encode_head?]; rfl
  · rw [← encode_length, List.length_append]; exact Nat.le_add_right _ _
  · rw [← encode_length, List.drop_left]

theorem decodeBytes_encode (i : Instr) : decodeBytes (encode i) = .ok (i, []) := by
  simpa using decodeBytes_encode_append i []

/-! ## The length of an instruction -/

theorem format_length_bounds (x : Format) : 1 ≤ x.length ∧ x.length ≤ 5 := by
  cases x <;> decide

/-- An instruction that is no control transfer and no HALT is a chain of operations that keep IP, then the advance of IP by
its fixed length (10_state.md R17). -/
theorem exec_sequential {i : Instr} (s : State) (noTarget : i.variant.format ≠ .a) (notRet : i ≠ .ret)
    (notHalt : i ≠ .halt) : ∃ u : State, exec i s = .next (u.advance i.variant.length) ∧ u.ip = s.ip := by
  cases i with
  | halt => exact absurd rfl notHalt
  | ret => exact absurd rfl notRet
  | jmp | call | jz | jnz | jc | jnc | js | jns | jo | jno => exact absurd rfl noTarget
  | _ => exact ⟨_, rfl, rfl⟩

/-- Settles O23: the opcode selects the variant and with it the length, for what is decoded and for the advance of IP. -/
theorem lengthIsDecidedByOpcode : Obligations.LengthIsDecidedByOpcode := by
  refine ⟨fun bs rest i decodes => ?consumed, fun v => format_length_bounds v.format,
    fun i s noTarget notRet notHalt => ?next⟩
  case consumed =>
    obtain ⟨v, opcode, enough, decoded, rfl⟩ := decodeBytes_eq_ok_iff.mp decodes
    refine ⟨v, by rw [opcode]; exact opMap_opcode v, variant_of_decodeOperands decoded, ?_, rfl⟩
    rw [List.length_drop, Nat.add_sub_cancel' enough]
  case next =>
    obtain ⟨u, runs, keepsIp⟩ := exec_sequential s noTarget notRet notHalt
    exact ⟨_, runs, by rw [advance_ip, keepsIp]⟩

end Sys2Proof.Proofs.Encoding
end

section
/-! SUPPORT. The lines the encoder accepts (30_encoding.md R94 to R103), and the redundant encodings the decoder accepts besides
(R89). -/

namespace Sys2Proof.Proofs.Encoding

open Sys2Proof.Machine
open Sys2Proof.Asm

/-! ## What a line selects

Whatever holds of every instruction the constructors of a mnemonic make holds of the instruction its line selects. -/

theorem selectNone_of_forall {P : Instr → Prop} {j i : Instr} {ops : List OperandClass}
    (h : selectNone j ops = .ok i) (hj : P j) : P i := by
  unfold selectNone at h
  split at h <;> cases h
  exact hj

theorem selectBranch_of_forall {P : Instr → Prop} {labels : Labels} {mk : Addr → Instr} {ops : List OperandClass}
    {i : Instr} (h : selectBranch labels mk ops = .ok i) (hmk : ∀ a, P (mk a)) : P i := by
  unfold selectBranch at h
  split at h
  · split at h <;> cases h
    exact hmk _
  · cases h

theorem selectUnary_of_forall {P : Instr → Prop} {mk16 : Reg16 → Instr} {mk8 : Reg8 → Instr} {ops : List OperandClass}
    {i : Instr} (h : selectUnary mk16 mk8 ops = .ok i) (h16 : ∀ d, P (mk16 d)) (h8 : ∀ d, P (mk8 d)) : P i := by
  unfold selectUnary at h
  split at h <;> cases h
  · exact h16 _
  · exact h8 _

theorem selectStack_of_forall {P : Instr → Prop} {mk : Reg16 → Instr} {ops : List OperandClass} {i : Instr}
    (h : selectStack mk ops = .ok i) (hmk : ∀ d, P (mk d)) : P i := by
  unfold selectStack at h
  split at h <;> cases h
  exact hmk _

theorem selectShift_of_forall {P : Instr → Prop} {r16imm : Reg16 → Byte → Instr} {r16cl : Reg16 → Instr}
    {r8imm : Reg8 → Byte → Instr} {r8cl : Reg8 → Instr} {ops : List OperandClass} {i : Instr}
    (h : selectShift r16imm r16cl r8imm r8cl ops = .ok i) (h16imm : ∀ d n, P (r16imm d n)) (h16cl : ∀ d, P (r16cl d))
    (h8imm : ∀ d n, P (r8imm d n)) (h8cl : ∀ d, P (r8cl d)) : P i := by
  unfold selectShift at h
  split at h
  · split at h <;> cases h
    exact h16imm _ _
  · cases h; exact h16cl _
  · split at h <;> cases h
    exact h8imm _ _
  · cases h; exact h8cl _
  · cases h

theorem selectAlu_of_forall {P : Instr → Prop} {r16r16 : Reg16 → Reg16 → Instr} {r8r8 : Reg8 → Reg8 → Instr}
    {r16imm : Reg16 → Word → Instr} {r8imm : Reg8 → Byte → Instr} {ops : List OperandClass} {i : Instr}
    (h : selectAlu r16r16 r8r8 r16imm r8imm ops = .ok i) (h16 : ∀ d r, P (r16r16 d r)) (h8 : ∀ d r, P (r8r8 d r))
    (h16imm : ∀ d v, P (r16imm d v)) (h8imm : ∀ d v, P (r8imm d v)) : P i := by
  unfold selectAlu at h
  split at h
  · cases h; exact h16 _ _
  · cases h; exact h8 _ _
  · split at h <;> cases h
    exact h16imm _ _
  · split at h <;> cases h
    exact h8imm _ _
  · cases h

theorem selectXchg_of_forall {P : Instr → Prop} {ops : List OperandClass} {i : Instr} (h : selectXchg ops = .ok i)
    (h16 : ∀ d r, P (.xchgR16R16 d r)) (h8 : ∀ d r, P (.xchgR8R8 d r)) : P i := by
  unfold selectXchg at h
  split at h <;> cases h
  · exact h16 _ _
  · exact h8 _ _

/-! ## Word stores -/

/-- A word store of an immediate stores a value that is no byte: the others have the byte form, which the encoder prefers
(30_encoding.md R89, R99). -/
def WordStoreIsWide : Instr → Prop
  | .movMemImm16 _ v => 0x100 ≤ v.toNat
  | _ => True

theorem wordStoreIsWide_movMemImm16 (a : Addr) (v : Word) : WordStoreIsWide (.movMemImm16 a v) ↔ 0x100 ≤ v.toNat := Iff.rfl

theorem selectMovToReg16_wide {d : Reg16} {src : OperandClass} {i : Instr} (h : selectMovToReg16 d src = .ok i) :
    WordStoreIsWide i := by
  cases src with
  | reg16 | memDirect | memReg | memPair => cases h; trivial
  | imm =>
    dsimp only [selectMovToReg16] at h
    split at h <;> cases h
    trivial
  | _ => cases h

theorem selectMovToReg8_wide {d : Reg8} {src : OperandClass} {i : Instr} (h : selectMovToReg8 d src = .ok i) :
    WordStoreIsWide i := by
  cases src with
  | reg8 | memDirect | memReg | memPair => cases h; trivial
  | imm =>
    dsimp only [selectMovToReg8] at h
    split at h <;> cases h
    trivial
  | _ => cases h

theorem selectMovToDirect_wide {a : Addr} {src : OperandClass} {i : Instr} (h : selectMovToDirect a src = .ok i) :
    WordStoreIsWide i := by
  cases src with
  | reg16 | reg8 => cases h; trivial
  | imm n =>
    dsimp only [selectMovToDirect] at h
    split at h
    · cases h; trivial
    · split at h <;> cases h
      rw [wordStoreIsWide_movMemImm16, BitVec.toNat_ofNat]
      omega
  | _ => cases h

theorem selectMov_wide {ops : List OperandClass} {i : Instr} (h : selectMov ops = .ok i) : WordStoreIsWide i := by
  unfold selectMov at h
  split at h
  · exact selectMovToReg16_wide h
  · exact selectMovToReg8_wide h
  · exact selectMovToDirect_wide h
  all_goals cases h <;> trivial

theorem selectForm_wide {labels : Labels} {m : Mnemonic} {ops : List OperandClass} {i : Instr}
    (h : selectForm labels m ops = .ok i) : WordStoreIsWide i := by
  cases m with
  | halt | ret => exact selectNone_of_forall h trivial
  | jmp | call | jz | jnz | jc | jnc | js | jns | jo | jno => exact selectBranch_of_forall h (fun _ => trivial)
  | inc | dec | not => exact selectUnary_of_forall h (fun _ => trivial) (fun _ => trivial)
  | push | pop => exact selectStack_of_forall h (fun _ => trivial)
  | shl | shr | sar | rol | ror | rcl | rcr =>
    exact selectShift_of_forall h (fun _ _ => trivial) (fun _ => trivial) (fun _ _ => trivial) (fun _ => trivial)
  | mov => exact selectMov_wide h
  | xchg => exact selectXchg_of_forall h (fun _ _ => trivial) (fun _ _ => trivial)
  | add | sub | cmp | and | or | xor | adc | sbb =>
    exact selectAlu_of_forall h (fun _ _ => trivial) (fun _ _ => trivial) (fun _ _ => trivial) (fun _ _ => trivial)

theorem select_wide {labels : Labels} {m : Text} {ops : List Text} {i : Instr} (h : select labels m ops = .ok i) :
    WordStoreIsWide i := by
  simp only [select] at h
  split at h
  · cases h
  · split at h
    · cases h
    · exact selectForm_wide h

/-! ## Lines -/

theorem encodeLine_eq_ok_iff {labels : Labels} {m : Text} {ops : List Text} {bs : List Byte} :
    encodeLine labels m ops = .ok bs ↔ ∃ i, select labels m ops = .ok i ∧ encode i = bs := by
  unfold encodeLine
  cases select labels m ops <;> simp

/-! ## Shifts by CL -/

theorem firstBadByte_cons_eq_none_iff {x : Field} {fs : List Field} {b : Byte} {bs : List Byte} :
    firstBadByte (x :: fs) (b :: bs) = none ↔ x.admits b = true ∧ firstBadByte fs bs = none := by
  rw [firstBadByte]
  split <;> simp_all

theorem operandsR16_of_admits {f : FetchFn} (mk : Reg16 → Instr) (h : Field.code16.admits (f 1) = true) :
    ∃ i, operandsR16 f mk = .ok i := by
  obtain ⟨r, hr⟩ := Option.isSome_iff_exists.mp h
  exact ⟨mk r, operandsR16_eq_ok_iff.mpr ⟨r, (code_of_reg16OfCode hr).symm, rfl⟩⟩

theorem operandsR8_of_admits {f : FetchFn} (mk : Reg8 → Instr) (h : Field.code8.admits (f 1) = true) :
    ∃ i, operandsR8 f mk = .ok i := by
  obtain ⟨r, hr⟩ := Option.isSome_iff_exists.mp h
  exact ⟨mk r, operandsR8_eq_ok_iff.mpr ⟨r, (code_of_reg8OfCode hr).symm, rfl⟩⟩

/-- A shift by CL decodes whatever its byte 2 is (30_encoding.md R87, D20). -/
theorem decodeBytes_clShift {v : Variant} {c b : Byte} (ignores : v.layout[1]? = some .ignored)
    (good : firstBadByte v.layout [c, b] = none) : ∃ i, decodeBytes [v.opcode, c, b] = .ok (i, []) := by
  suffices fields : v.length = 3 ∧ ∃ i, decodeOperands (fun k => [v.opcode, c, b].getD k 0) v = .ok i by
    obtain ⟨three, i, decoded⟩ := fields
    exact ⟨i, decodeBytes_eq_ok_iff.mpr ⟨v, rfl, three.le, decoded, by rw [three]; rfl⟩⟩
  cases v with
  | shlR16Cl | shrR16Cl | sarR16Cl | rolR16Cl | rorR16Cl | rclR16Cl | rcrR16Cl =>
    exact ⟨rfl, operandsR16_of_admits _ (firstBadByte_cons_eq_none_iff.mp good).1⟩
  | shlR8Cl | shrR8Cl | sarR8Cl | rolR8Cl | rorR8Cl | rclR8Cl | rcrR8Cl =>
    exact ⟨rfl, operandsR8_of_admits _ (firstBadByte_cons_eq_none_iff.mp good).1⟩
  | _ => cases ignores

/-- The encoder writes the code of CL in the byte the decoder ignores (30_encoding.md R87). -/
theorem encode_clShift {i : Instr} (ignores : i.variant.layout[1]? = some .ignored) : (encode i)[2]? = some clCode := by
  cases i with
  | shlR16Cl | shlR8Cl | shrR16Cl | shrR8Cl | sarR16Cl | sarR8Cl | rolR16Cl | rolR8Cl | rorR16Cl | rorR8Cl | rclR16Cl
  | rclR8Cl | rcrR16Cl | rcrR8Cl => rfl
  | _ => cases ignores

theorem encodeLine_ne_clShift (labels : Labels) (m : Text) (ops : List Text) {v : Variant} {c b : Byte}
    (ignores : v.layout[1]? = some .ignored) (other : b ≠ 0x14) : encodeLine labels m ops ≠ .ok [v.opcode, c, b] := by
  intro line
  obtain ⟨i, -, e⟩ := encodeLine_eq_ok_iff.mp line
  have opcode := encode_head? i
  rw [e] at opcode
  obtain rfl := opcode_injective (Option.some.inj opcode)
  have byte2 := encode_clShift ignores
  rw [e] at byte2
  exact other (Option.some.inj byte2)

/-! ## Word stores of a byte value -/

theorem decodeBytes_wordStore_of_byte (lo hi n : Byte) :
    decodeBytes [0x31, lo, hi, n, 0x00] = .ok (.movMemImm16 (hi ++ lo) (n.setWidth 16), []) := by
  rw [BitVec.setWidth_eq_append (by decide)]; rfl

/-- A word store of a byte value is never selected, so no line gives its bytes (30_encoding.md R89, R99). -/
theorem encodeLine_ne_wordStore_of_byte (labels : Labels) (m : Text) (ops : List Text) (lo hi n : Byte) :
    encodeLine labels m ops ≠ .ok [0x31, lo, hi, n, 0x00] := by
  intro line
  obtain ⟨i, selected, e⟩ := encodeLine_eq_ok_iff.mp line
  have decodes := decodeBytes_encode i
  rw [e, decodeBytes_wordStore_of_byte] at decodes
  cases decodes
  have wide := (wordStoreIsWide_movMemImm16 _ _).mp (select_wide selected)
  rw [BitVec.toNat_setWidth] at wide
  omega

/-- Settles O27: what a line gives is the encoding of the instruction it selects, which decodes to it; a shift by CL is encoded
with byte 2 = 0x14 only, and a word store of a byte value is never selected. -/
theorem encoderAndDecoderAgree : Obligations.EncoderAndDecoderAgree := by
  refine ⟨fun labels m ops bs line => ?accepted, fun v c b ignores good other => ?clShift, fun lo hi n => ?wordStore⟩
  case accepted =>
    obtain ⟨i, selected, rfl⟩ := encodeLine_eq_ok_iff.mp line
    exact ⟨i, selected, encode_length i, decodeBytes_encode_append i,
      fun f reads => decodeFrom_of_reads_encode (reads_of_getElem reads)⟩
  case clShift =>
    exact ⟨decodeBytes_clShift ignores good, fun labels m ops => encodeLine_ne_clShift labels m ops ignores other⟩
  case wordStore =>
    exact ⟨decodeBytes_wordStore_of_byte lo hi n, fun labels m ops => encodeLine_ne_wordStore_of_byte labels m ops lo hi n⟩

end Sys2Proof.Proofs.Encoding
end

section
/-! SUPPORT. The flag rules of the arithmetic and logic instructions in plain integers (41_arithmetic.md R161 to R163, R166). -/

namespace Sys2Proof.Proofs.FlagRules

open Sys2Proof.Machine

/-! ## Truncation, in plain integers -/

theorem toNat_truncW (w : Nat) (v : Int) : ((truncW w v).toNat : Int) = v % 2 ^ w := by
  have nonneg : 0 ≤ v % (2 ^ w : Nat) := Int.emod_nonneg v (Int.natCast_ne_zero.mpr (Nat.ne_of_gt (Nat.two_pow_pos w)))
  rw [truncW, BitVec.toNat_ofInt, Int.toNat_of_nonneg nonneg, Int.natCast_pow]
  rfl

theorem beq_zero_eq_decide {w : Nat} (x : BitVec w) : (x == 0#w) = decide (x.toNat = 0) := by
  rw [Bool.eq_iff_iff, beq_iff_eq, decide_eq_true_iff, BitVec.toNat_eq, BitVec.toNat_zero]

theorem zeroW_eq_decide (w : Nat) (v : Int) : zeroW w v = decide (v % 2 ^ w = 0) := by
  rw [zeroW, ← toNat_truncW, beq_zero_eq_decide, decide_eq_decide, Int.natCast_eq_zero]

theorem msbW_eq_decide (w : Nat) (v : Int) : msbW w v = decide (2 ^ (w - 1) ≤ v % 2 ^ w) := by
  rw [msbW, BitVec.msb_eq_decide, ← toNat_truncW, decide_eq_decide]
  exact_mod_cast Iff.rfl

/-! ## What each operation computes its flags from -/

@[simp] theorem addWith_flags {w : Nat} (x y : BitVec w) : (addWith x y.toNat).2 = flagsOfSum x y := rfl

@[simp] theorem subWith_flags {w : Nat} (x y : BitVec w) : (subWith x y.toNat).2 = flagsOfDifference x y := rfl

/-- The model folds the carry in full (R166, D15): the first of the two readings that `Folded` admits. -/
theorem folded_foldCarry {w : Nat} (y : BitVec w) (c : Bool) : Folded y c (foldCarry y.toNat c) := by
  left
  cases c <;> rfl

theorem flagsOfFoldedSum_addWith {w : Nat} (x y : BitVec w) (c : Bool) :
    FlagsOfFoldedSum x y c (addWith x (foldCarry y.toNat c)).2 :=
  ⟨foldCarry y.toNat c, folded_foldCarry y c, rfl⟩

theorem flagsOfFoldedDifference_subWith {w : Nat} (x y : BitVec w) (c : Bool) :
    FlagsOfFoldedDifference x y c (subWith x (foldCarry y.toNat c)).2 :=
  ⟨foldCarry y.toNat c, folded_foldCarry y c, rfl⟩

/-- The flags of a logic result, written back, are those of what its destination then holds. -/
theorem writeBack16_logicWith_flags (s : State) (d : Reg16) (v : Word) (n : Nat) :
    ((s.writeBack16 d (logicWith v)).advance n).flags =
      flagsLogic (((s.writeBack16 d (logicWith v)).advance n).get16 d) := by
  simp

theorem writeBack8_logicWith_flags (s : State) (d : Reg8) (v : Byte) (n : Nat) :
    ((s.writeBack8 d (logicWith v)).advance n).flags =
      flagsLogic (((s.writeBack8 d (logicWith v)).advance n).get8 d) := by
  simp

/-! ## The three rules -/

/-- Settles O38: every form writes a logic result back, and the unit reads ZF and SF off the result's number. -/
theorem flagsLogicRule : Obligations.FlagsLogicRule := by
  refine ⟨fun w _ r => ?rule, fun s => ⟨?and16, ?and8, ?and16i, ?and8i, ?or16, ?or8, ?or16i, ?or8i, ?xor16, ?xor8, ?xor16i,
    ?xor8i, ?not16, ?not8⟩⟩
  case rule => rw [flagsLogic, beq_zero_eq_decide, BitVec.msb_eq_decide]
  case not16 => exact fun d => ⟨_, rfl, writeBack16_logicWith_flags s d _ _⟩
  case not8 => exact fun d => ⟨_, rfl, writeBack8_logicWith_flags s d _ _⟩
  case and16 | and16i | or16 | or16i | xor16 | xor16i => exact fun d _ => ⟨_, rfl, writeBack16_logicWith_flags s d _ _⟩
  case and8 | and8i | or8 | or8i | xor8 | xor8i => exact fun d _ => ⟨_, rfl, writeBack8_logicWith_flags s d _ _⟩

/-- Settles O36: ADD is `addWith` of its operands and ADC is `addWith` of the folded source. -/
theorem flagsAddRule : Obligations.FlagsAddRule := by
  refine ⟨fun w _ dest src result => ?rule, fun s => ⟨?add16, ?add8, ?add16i, ?add8i, ?adc16, ?adc8, ?adc16i, ?adc8i⟩⟩
  case rule => rw [flagsAdd, maxW, zeroW_eq_decide, msbW_eq_decide, msbW_eq_decide, msbW_eq_decide]
  case add16 | add8 | add16i | add8i => exact fun _ _ => ⟨_, rfl, addWith_flags _ _⟩
  case adc16 | adc8 | adc16i | adc8i => exact fun _ _ => ⟨_, rfl, flagsOfFoldedSum_addWith _ _ _⟩

/-- Settles O37: SUB and CMP are `subWith` of their operands and SBB is `subWith` of the folded source. -/
theorem flagsSubRule : Obligations.FlagsSubRule := by
  refine ⟨fun w _ dest src result => ?rule, fun s => ⟨?sub16, ?sub8, ?sub16i, ?sub8i, ?cmp16, ?cmp8, ?cmp16i, ?cmp8i,
    ?sbb16, ?sbb8, ?sbb16i, ?sbb8i⟩⟩
  case rule => simp only [flagsSub, zeroW_eq_decide, msbW_eq_decide]
  case sub16 | sub8 | sub16i | sub8i | cmp16 | cmp8 | cmp16i | cmp8i => exact fun _ _ => ⟨_, rfl, subWith_flags _ _⟩
  case sbb16 | sbb8 | sbb16i | sbb8i => exact fun _ _ => ⟨_, rfl, flagsOfFoldedDifference_subWith _ _ _⟩

end Sys2Proof.Proofs.FlagRules
end

section
/-! SUPPORT. The fault of an unassigned opcode (60_exceptions.md R331). -/

namespace Sys2Proof.Proofs.Exceptions

open Sys2Proof.Machine

/-! ## The opcode byte -/

@[simp] theorem fetch8_zero (s : State) : s.fetch8 0 = s.mem8 s.ip := by
  rw [fetch8_eq, BitVec.add_zero]

/-- An unassigned opcode is decoded from byte 0 alone: the bytes behind it are not looked at. -/
theorem decodeFrom_congr_of_unassigned {f g : FetchFn} (unassigned : opMap (f 0) = none) (same : f 0 = g 0) :
    decodeFrom f = decodeFrom g := by
  rw [decodeFrom_unassigned unassigned, decodeFrom_unassigned (same ▸ unassigned), same]

/-! ## The step -/

theorem step_unassigned {s : State} (running : s.rs = .running) (unassigned : opMap (s.mem8 s.ip) = none) :
    step s = .next (s.raise (.unknownOpcode (s.mem8 s.ip) s.ip)) := by
  rw [← fetch8_zero] at unassigned ⊢
  exact step_decode_fault running (decodeFrom_unassigned unassigned)

/-- The byte that every address holds after reset is no opcode. -/
theorem opMap_memInit : opMap Config.memInit = none := by decide

/-- Settles O4: the decoder answers from the opcode byte alone and the step raises what it answers; reset leaves `MEM_INIT` at
IP. -/
theorem unassignedOpcodeFaults : Obligations.UnassignedOpcodeFaults :=
  ⟨fun _ running unassigned => step_unassigned running unassigned,
    fun _ _ unassigned same => decodeFrom_congr_of_unassigned unassigned same,
    fun _ => rfl,
    step_unassigned rfl opMap_memInit⟩

end Sys2Proof.Proofs.Exceptions
end

section
/-! SUPPORT. Where the machine starts after reset and a load (70_reset_and_hazards.md R371, 60_exceptions.md R346). -/

namespace Sys2Proof.Proofs.ResetAndLoad

open Sys2Proof.Machine

/-! ## A load that is not refused -/

theorem load_eq_some_iff {s t : State} {image : List Byte} :
    s.load image = some t ↔ image.length ≤ Config.maxImage ∧ s.storeBytes 0 image = t :=
  Option.ite_some_none_eq_some

theorem load_ip {s t : State} {image : List Byte} (loaded : s.load image = some t) : t.ip = s.ip := by
  obtain ⟨-, rfl⟩ := load_eq_some_iff.mp loaded
  exact storeBytes_ip s 0 image

theorem load_rs {s t : State} {image : List Byte} (loaded : s.load image = some t) : t.rs = s.rs := by
  obtain ⟨-, rfl⟩ := load_eq_some_iff.mp loaded
  exact storeBytes_rs s 0 image

/-! ## The first fetch -/

theorem fetch8_of_ip_zero {s : State} (start : s.ip = 0) : s.fetch8 = fun k => s.mem8 (BitVec.ofNat 16 k) := by
  funext k
  rw [fetch8_eq, start]
  exact congrArg s.mem8 (BitVec.zero_add _)

/-- Settles O13: a load writes memory alone, so IP is still 0 and RS still Running, and the first step fetches from address
0. -/
theorem firstInstructionIsAtAddressZero : Obligations.FirstInstructionIsAtAddressZero := by
  refine ⟨rfl, fun image t i loaded decoded => ?_⟩
  have running : t.rs = .running := load_rs loaded
  have start : t.ip = 0 := load_ip loaded
  rw [← fetch8_of_ip_zero start] at decoded
  exact step_decoded running decoded

end Sys2Proof.Proofs.ResetAndLoad
end

section
/-! SUPPORT. What the decoder answers, read off the layout of the opcode: an instruction or the lowest bad register code, and
which bytes it looks at (30_encoding.md R71 to R89). -/

namespace Sys2Proof.Proofs.Encoding

open Sys2Proof.Machine

/-! ## Operand layouts: the lowest bad register code is reported -/

/-- `e` is what the layout says of the bytes `bs`: an instruction when every byte is admitted, else the fault of the first one
that is not. -/
def FollowsLayout (fields : List Field) (bs : List Byte) (e : Except DecodeFault Instr) : Prop :=
  match firstBadByte fields bs with
  | none => ∃ i, e = .ok i
  | some b => e = .error (.badRegister b)

theorem followsLayout_ok {fields : List Field} {bs : List Byte} (i : Instr) (good : firstBadByte fields bs = none) :
    FollowsLayout fields bs (.ok i) := by
  rw [FollowsLayout, good]
  exact ⟨i, rfl⟩

theorem followsLayout_reg16 {fields : List Field} {bs : List Byte} {f : FetchFn} {k : Nat}
    {next : Reg16 → Except DecodeFault Instr} (rest : ∀ r, FollowsLayout fields bs (next r)) :
    FollowsLayout (.code16 :: fields) (f k :: bs) (thenDecode (fetchReg16 f k) next) := by
  obtain ⟨r, code, reads⟩ | ⟨bad, fails⟩ := fetchReg16_cases f k
  · rw [reads, code]
    simpa [FollowsLayout, firstBadByte] using rest r
  · rw [fails]
    simp [FollowsLayout, firstBadByte, bad]

theorem followsLayout_reg8 {fields : List Field} {bs : List Byte} {f : FetchFn} {k : Nat}
    {next : Reg8 → Except DecodeFault Instr} (rest : ∀ r, FollowsLayout fields bs (next r)) :
    FollowsLayout (.code8 :: fields) (f k :: bs) (thenDecode (fetchReg8 f k) next) := by
  obtain ⟨r, code, reads⟩ | ⟨bad, fails⟩ := fetchReg8_cases f k
  · rw [reads, code]
    simpa [FollowsLayout, firstBadByte] using rest r
  · rw [fails]
    simp [FollowsLayout, firstBadByte, bad]

/-- The decoder of Decode.lean reads each variant by its row of the opcode table. -/
theorem decodeOperands_followsLayout (f : FetchFn) (v : Variant) :
    FollowsLayout v.layout (operandBytes f v) (decodeOperands f v) := by
  cases v with
  | halt | ret | jmp | call | jz | jnz | jc | jnc | js | jns | jo | jno | movMemImm8 | movMemImm16 =>
    exact followsLayout_ok _ rfl
  | movR16R16 | movR16Ind | movIndR16 | xchgR16R16 | addR16R16 | adcR16R16 | subR16R16 | sbbR16R16 | cmpR16R16
  | andR16R16 | orR16R16 | xorR16R16 =>
    exact followsLayout_reg16 fun _ => followsLayout_reg16 fun _ => followsLayout_ok _ rfl
  | movR8R8 | xchgR8R8 | addR8R8 | adcR8R8 | subR8R8 | sbbR8R8 | cmpR8R8 | andR8R8 | orR8R8 | xorR8R8 =>
    exact followsLayout_reg8 fun _ => followsLayout_reg8 fun _ => followsLayout_ok _ rfl
  | movR8Ind => exact followsLayout_reg8 fun _ => followsLayout_reg16 fun _ => followsLayout_ok _ rfl
  | movIndR8 => exact followsLayout_reg16 fun _ => followsLayout_reg8 fun _ => followsLayout_ok _ rfl
  | movR16Pair | movPairR16 =>
    exact followsLayout_reg16 fun _ => followsLayout_reg16 fun _ => followsLayout_reg16 fun _ => followsLayout_ok _ rfl
  | movR8Pair =>
    exact followsLayout_reg8 fun _ => followsLayout_reg16 fun _ => followsLayout_reg16 fun _ => followsLayout_ok _ rfl
  | movPairR8 =>
    exact followsLayout_reg16 fun _ => followsLayout_reg16 fun _ => followsLayout_reg8 fun _ => followsLayout_ok _ rfl
  | movR16Imm | movR16Mem | movMemR16 | addR16Imm | adcR16Imm | subR16Imm | sbbR16Imm | cmpR16Imm | andR16Imm | orR16Imm
  | xorR16Imm | shlR16Imm | shrR16Imm | sarR16Imm | rolR16Imm | rorR16Imm | rclR16Imm | rcrR16Imm | incR16 | decR16
  | notR16 | pushR16 | popR16 | shlR16Cl | shrR16Cl | sarR16Cl | rolR16Cl | rorR16Cl | rclR16Cl | rcrR16Cl =>
    exact followsLayout_reg16 fun _ => followsLayout_ok _ rfl
  | movR8Imm | movR8Mem | movMemR8 | addR8Imm | adcR8Imm | subR8Imm | sbbR8Imm | cmpR8Imm | andR8Imm | orR8Imm | xorR8Imm
  | shlR8Imm | shrR8Imm | sarR8Imm | rolR8Imm | rorR8Imm | rclR8Imm | rcrR8Imm | incR8 | decR8 | notR8 | shlR8Cl | shrR8Cl
  | sarR8Cl | rolR8Cl | rorR8Cl | rclR8Cl | rcrR8Cl =>
    exact followsLayout_reg8 fun _ => followsLayout_ok _ rfl

theorem decodeFrom_of_noBadByte {f : FetchFn} {v : Variant} (opcode : f 0 = v.opcode)
    (good : firstBadByte v.layout (operandBytes f v) = none) : ∃ i, decodeFrom f = .ok i ∧ i.variant = v := by
  have follows := decodeOperands_followsLayout f v
  rw [FollowsLayout, good] at follows
  obtain ⟨i, decoded⟩ := follows
  exact ⟨i, by rw [decodeFrom_of_opcode opcode, decoded], variant_of_decodeOperands decoded⟩

theorem decodeFrom_of_badByte {f : FetchFn} {v : Variant} {b : Byte} (opcode : f 0 = v.opcode)
    (bad : firstBadByte v.layout (operandBytes f v) = some b) : decodeFrom f = .error (.badRegister b) := by
  have follows := decodeOperands_followsLayout f v
  rw [FollowsLayout, bad] at follows
  rw [decodeFrom_of_opcode opcode, follows]

/-- Only an unassigned byte 0 is reported as an unknown opcode. -/
theorem opMap_of_unknownOpcode {f : FetchFn} {op : Byte} (h : decodeFrom f = .error (.unknownOpcode op)) :
    op = f 0 ∧ opMap op = none := by
  cases assigned : opMap (f 0) with
  | none =>
    cases (decodeFrom_unassigned assigned).symm.trans h
    exact ⟨rfl, assigned⟩
  | some v =>
    have opcode : f 0 = v.opcode := (opcode_of_opMap assigned).symm
    cases bad : firstBadByte v.layout (operandBytes f v) with
    | none =>
      obtain ⟨i, decoded, -⟩ := decodeFrom_of_noBadByte opcode bad
      cases decoded.symm.trans h
    | some b => cases (decodeFrom_of_badByte opcode bad).symm.trans h

/-- Settles O6: the layout decides, byte by byte in address order; the code sets and the order of the names are tables. -/
theorem decodeFollowsLayout : Obligations.DecodeFollowsLayout := by
  refine ⟨fun f v opcode => ⟨decodeFrom_of_noBadByte opcode, fun b => decodeFrom_of_badByte opcode⟩,
    fun b => ⟨?set16, ?set8⟩, fun n r place => ?regs, fun n r place => ?views⟩
  case set16 => rw [admits_code16_range, decide_eq_true_iff]
  case set8 => rw [admits_code8_range, Bool.and_eq_true, decide_eq_true_iff, decide_eq_true_iff]
  case regs =>
    have table : ∀ p ∈ ([.ax, .bx, .cx, .dx, .ex, .sp, .bp, .si, .di] : List Reg16).zipIdx, p.1.code.toNat = p.2 := by
      decide
    exact ⟨table (r, n) (List.mk_mem_zipIdx_iff_getElem?.mpr place), reg16OfCode_code r⟩
  case views =>
    have table : ∀ p ∈ ([.al, .ah, .bl, .bh, .cl, .ch, .dl, .dh, .el, .eh] : List Reg8).zipIdx,
        p.1.code.toNat = 0x10 + p.2 := by decide
    exact ⟨table (r, n) (List.mk_mem_zipIdx_iff_getElem?.mpr place), reg8OfCode_code r⟩

/-! ## Encoding and decoding undo each other -/

/-- Settles O21: byte 0 selects the variant and every operand field is read back as it was written. -/
theorem encodeThenDecode : Obligations.EncodeThenDecode :=
  ⟨decodeBytes_encode_append, fun _ _ reads => decodeFrom_of_reads_encode (reads_of_getElem reads)⟩

/-- The byte the encoder writes where the layout has field `x` and `b` was fetched (30_encoding.md R87). -/
def reencodedByte (x : Field) (b : Byte) : Byte := if x = .ignored then clCode else b

/-- The operand bytes are written back as they were fetched, but for the uninterpreted one. -/
theorem encode_of_decodeOperands {f : FetchFn} {v : Variant} {i : Instr} (h : decodeOperands f v = .ok i) :
    encode i = v.opcode :: List.zipWith reencodedByte v.layout (operandBytes f v) := by
  have lo (k : Nat) : loByte (fetchWord f k) = f k := loByte_wordOfBytes _ _
  have hi (k : Nat) : hiByte (fetchWord f k) = f (k + 1) := hiByte_wordOfBytes _ _
  cases v with
  | halt | ret => cases h; rfl
  | jmp | call | jz | jnz | jc | jnc | js | jns | jo | jno | movMemImm8 | movMemImm16 =>
    cases h
    simp only [encode, lo, hi]; rfl
  | movR16R16 | movR16Ind | movIndR16 | xchgR16R16 | addR16R16 | adcR16R16 | subR16R16 | sbbR16R16 | cmpR16R16
  | andR16R16 | orR16R16 | xorR16R16 =>
    obtain ⟨p, q, c1, c2, rfl⟩ := operandsR16R16_eq_ok_iff.mp h
    simp only [encode, ← c1, ← c2]; rfl
  | movR8R8 | xchgR8R8 | addR8R8 | adcR8R8 | subR8R8 | sbbR8R8 | cmpR8R8 | andR8R8 | orR8R8 | xorR8R8 =>
    obtain ⟨p, q, c1, c2, rfl⟩ := operandsR8R8_eq_ok_iff.mp h
    simp only [encode, ← c1, ← c2]; rfl
  | movR8Ind =>
    obtain ⟨p, q, c1, c2, rfl⟩ := operandsR8R16_eq_ok_iff.mp h
    simp only [encode, ← c1, ← c2]; rfl
  | movIndR8 =>
    obtain ⟨p, q, c1, c2, rfl⟩ := operandsR16R8_eq_ok_iff.mp h
    simp only [encode, ← c1, ← c2]; rfl
  | movR16Pair | movPairR16 =>
    obtain ⟨p, q, u, c1, c2, c3, rfl⟩ := operandsR16R16R16_eq_ok_iff.mp h
    simp only [encode, ← c1, ← c2, ← c3]; rfl
  | movR8Pair =>
    obtain ⟨p, q, u, c1, c2, c3, rfl⟩ := operandsR8R16R16_eq_ok_iff.mp h
    simp only [encode, ← c1, ← c2, ← c3]; rfl
  | movPairR8 =>
    obtain ⟨p, q, u, c1, c2, c3, rfl⟩ := operandsR16R16R8_eq_ok_iff.mp h
    simp only [encode, ← c1, ← c2, ← c3]; rfl
  | movR16Imm | movR16Mem | movMemR16 | addR16Imm | adcR16Imm | subR16Imm | sbbR16Imm | cmpR16Imm | andR16Imm
  | orR16Imm | xorR16Imm =>
    obtain ⟨p, c1, rfl⟩ := operandsR16Word_eq_ok_iff.mp h
    simp only [encode, ← c1, lo, hi]; rfl
  | movR8Mem | movMemR8 =>
    obtain ⟨p, c1, rfl⟩ := operandsR8Word_eq_ok_iff.mp h
    simp only [encode, ← c1, lo, hi]; rfl
  | movR8Imm | addR8Imm | adcR8Imm | subR8Imm | sbbR8Imm | cmpR8Imm | andR8Imm | orR8Imm | xorR8Imm | shlR8Imm
  | shrR8Imm | sarR8Imm | rolR8Imm | rorR8Imm | rclR8Imm | rcrR8Imm =>
    obtain ⟨p, c1, rfl⟩ := operandsR8Byte_eq_ok_iff.mp h
    simp only [encode, ← c1]; rfl
  | shlR16Imm | shrR16Imm | sarR16Imm | rolR16Imm | rorR16Imm | rclR16Imm | rcrR16Imm =>
    obtain ⟨p, c1, rfl⟩ := operandsR16Byte_eq_ok_iff.mp h
    simp only [encode, ← c1]; rfl
  | incR16 | decR16 | notR16 | pushR16 | popR16 | shlR16Cl | shrR16Cl | sarR16Cl | rolR16Cl | rorR16Cl | rclR16Cl
  | rcrR16Cl =>
    obtain ⟨p, c1, rfl⟩ := operandsR16_eq_ok_iff.mp h
    simp only [encode, ← c1]; rfl
  | incR8 | decR8 | notR8 | shlR8Cl | shrR8Cl | sarR8Cl | rolR8Cl | rorR8Cl | rclR8Cl | rcrR8Cl =>
    obtain ⟨p, c1, rfl⟩ := operandsR8_eq_ok_iff.mp h
    simp only [encode, ← c1]; rfl

theorem operandBytes_length (f : FetchFn) (v : Variant) : (operandBytes f v).length = v.layout.length := by
  simp [operandBytes]

theorem operandBytes_getElem? (f : FetchFn) {v : Variant} {k : Nat} {x : Field} (place : v.layout[k]? = some x) :
    (operandBytes f v)[k]? = some (f (k + 1)) := by
  obtain ⟨inside, -⟩ := List.getElem?_eq_some_iff.mp place
  simp [operandBytes, List.getElem?_range inside]

/-- Settles O22: the encoder repeats the bytes of the layout that the decoder read. -/
theorem decodeThenEncode : Obligations.DecodeThenEncode := by
  intro f i decoded
  obtain ⟨v, opcode, operands⟩ := decodeFrom_eq_ok decoded
  rw [variant_of_decodeOperands operands, encode_of_decodeOperands operands, opcode]
  refine ⟨?length, rfl, fun k x place => ?byte⟩
  case length => rw [List.length_cons, List.length_zipWith, operandBytes_length, Nat.min_self]
  case byte =>
    rw [List.getElem?_cons_succ, List.getElem?_zipWith, place, operandBytes_getElem? f place]
    rfl

/-! ## The bytes the decoder looks at -/

/-- Settles O26: a shift by CL is read from byte 1 alone. -/
theorem clShiftSecondByteIsIgnored : Obligations.ClShiftSecondByteIsIgnored := by
  intro f g v opcode ignores same
  have byte1 : f 1 = g 1 := same 1 (by decide)
  rw [decodeFrom_of_opcode opcode, decodeFrom_of_opcode ((same 0 (by decide)).symm.trans opcode)]
  cases v with
  | shlR16Cl | shrR16Cl | sarR16Cl | rolR16Cl | rorR16Cl | rclR16Cl | rcrR16Cl =>
    simp only [decodeOperands, operandsR16, fetchReg16, byte1]
  | shlR8Cl | shrR8Cl | sarR8Cl | rolR8Cl | rorR8Cl | rclR8Cl | rcrR8Cl =>
    simp only [decodeOperands, operandsR8, fetchReg8, byte1]
  | _ => cases ignores

/-- The first five bytes read through `f`, and zeros. -/
def firstFive (f : FetchFn) : FetchFn := fun k => if k < 5 then f k else 0

/-- No instruction is longer than five bytes, and the decoder looks at no byte behind it (30_encoding.md R71, R73). -/
theorem decodeFrom_firstFive (f : FetchFn) : decodeFrom (firstFive f) = decodeFrom f := by
  have operands (v : Variant) : decodeOperands (firstFive f) v = decodeOperands f v := by cases v <;> rfl
  simp only [decodeFrom, operands]
  rfl

theorem decodeFrom_congr {f g : FetchFn} (same : ∀ k, k < 5 → f k = g k) : decodeFrom f = decodeFrom g := by
  have truncated : firstFive f = firstFive g := funext fun k => ite_congr rfl (same k) fun _ => rfl
  rw [← decodeFrom_firstFive f, truncated, decodeFrom_firstFive]

theorem decodeFrom_of_decodeBytes {bs rest : List Byte} {i : Instr} (h : decodeBytes bs = .ok (i, rest)) :
    decodeFrom (fun k => bs.getD k 0) = .ok i := by
  obtain ⟨v, opcode, -, operands, -⟩ := decodeBytes_eq_ok_iff.mp h
  have byte0 : bs.getD 0 0 = v.opcode := by rw [List.getD, ← List.head?_eq_getElem?, opcode]; rfl
  rw [decodeFrom_of_opcode byte0, operands]

/-! ## The opcode map -/

/-- A table whose places count the opcodes from `base` up. -/
theorem opcode_of_place {row : List Variant} {base : Nat} (table : ∀ p ∈ row.zipIdx base, p.1.opcode.toNat = p.2) {n : Nat}
    {v : Variant} (place : row[n]? = some v) : v.opcode.toNat = base + n :=
  table (v, base + n) (List.mk_add_mem_zipIdx_iff_getElem?.mpr place)

/-- A table of rows of four. -/
theorem opcode_of_row_place {rows : List (List Variant)} {base : Nat}
    (table : ∀ p ∈ rows.zipIdx, ∀ q ∈ p.1.zipIdx (base + 4 * p.2), q.1.opcode.toNat = q.2) {k n : Nat} {row : List Variant}
    {v : Variant} (rowPlace : rows[k]? = some row) (place : row[n]? = some v) : v.opcode.toNat = base + 4 * k + n :=
  opcode_of_place (table (row, k) (List.mk_mem_zipIdx_iff_getElem?.mpr rowPlace)) place

/-- The 100 assigned opcodes, in order (30_encoding.md R85). -/
theorem opcodes_all : Variant.all.map (fun v => v.opcode.toNat) =
    [1, 2] ++ List.range' 0x10 10 ++ List.range' 0x20 20 ++ List.range' 0x40 40 ++ List.range' 0x80 28 := by decide

/-- The unassigned opcodes are the numbers between those of the map (30_encoding.md R86). -/
theorem opMap_eq_none_iff (op : Byte) : opMap op = none ↔
    op.toNat = 0 ∨ (3 ≤ op.toNat ∧ op.toNat ≤ 0x0F) ∨ (0x1A ≤ op.toNat ∧ op.toNat ≤ 0x1F) ∨
    (0x34 ≤ op.toNat ∧ op.toNat ≤ 0x3F) ∨ (0x68 ≤ op.toNat ∧ op.toNat ≤ 0x7F) ∨ 0x9C ≤ op.toNat := by
  have unlisted : opMap op = none ↔ op.toNat ∉ Variant.all.map (fun v => v.opcode.toNat) := by
    simp [opMap, List.find?_eq_none, BitVec.toNat_eq]
  rw [unlisted, opcodes_all]
  simp only [List.mem_append, List.mem_cons, List.not_mem_nil, List.mem_range'_1, or_false]
  omega

/-- Settles O24: the map is read back by `opMap_opcode`; the rest are its tables, row by row. -/
theorem assignedOpcodes : Obligations.AssignedOpcodes :=
  ⟨fun v _ => ⟨opMap_opcode v, opcode_injective⟩, opMap_eq_none_iff, ⟨rfl, rfl⟩,
    fun _ _ => opcode_of_place (by decide), fun _ _ => opcode_of_place (by decide),
    fun _ _ _ _ => opcode_of_row_place (by decide), fun _ _ => opcode_of_place (by decide),
    fun _ _ _ _ => opcode_of_row_place (by decide)⟩

/-- Bytes that the encoder gives for an instruction decode to it. -/
theorem decodeBytes_of_encode {samples : List (List Byte × Instr)} (encoded : ∀ p ∈ samples, encode p.2 = p.1) :
    ∀ p ∈ samples, decodeBytes p.1 = .ok (p.2, []) :=
  fun p mem => encoded p mem ▸ decodeBytes_encode p.2

/-- Settles O25: each sequence is what the encoder gives for its instruction. -/
theorem sampleWordsDecode : Obligations.SampleWordsDecode :=
  ⟨decodeBytes_of_encode (by decide), decodeBytes_of_encode (by decide), decodeBytes_of_encode (by decide),
    decodeBytes_of_encode (by decide), decodeBytes_of_encode (by decide), decodeBytes_of_encode (by decide),
    decodeBytes_of_encode (by decide), decodeBytes_of_encode (by decide)⟩

end Sys2Proof.Proofs.Encoding
end

section
/-! SUPPORT. What one instruction can do to memory and to the flags (20_memory.md R48, 10_state.md R19). -/

namespace Sys2Proof.Proofs.Effects

open Sys2Proof.Machine
open Sys2Proof.Proofs.RunState

/-! ## Memory -/

@[simp] theorem branchIf_mem (s : State) (taken : Bool) (target : Addr) : (s.branchIf taken target).mem = s.mem := by
  cases taken <;> rfl

@[simp] theorem branchIf_flags (s : State) (taken : Bool) (target : Addr) : (s.branchIf taken target).flags = s.flags := by
  cases taken <;> rfl

/-- The second byte of the word below SP. -/
theorem sub_two_add_one (a : Addr) : a - 2 + 1 = a - 1 := by bv_omega

/-- What an instruction that answers `t` did to memory: nothing, one byte store or one word store, at the addresses the
table of access widths gives it. -/
inductive MemoryEffect (s t : State) (i : Instr) : Prop where
  | kept (same : t.mem = s.mem) (addrs : storeAddrs s i = [])
  | byte (a : Addr) (v : Byte) (stored : t.mem = (s.setMem8 a v).mem) (addrs : storeAddrs s i = [a])
  | word (a : Addr) (v : Word) (stored : t.mem = (s.setMem16 a v).mem) (addrs : storeAddrs s i = [a, a + 1])

/-- All that pushing a word does to memory. -/
theorem storeTop_decSp_mem (s : State) (v : Word) :
    (s.decSp.storeTop v).mem = (s.setMem16 (s.get16 .sp - 2) v).mem := by
  rw [State.storeTop, get16_decSp_sp]
  rfl

theorem exec_memory (i : Instr) (s : State) : ∃ t, exec i s = .next t ∧ MemoryEffect s t i := by
  cases i with
  | jz | jnz | jc | jnc | js | jns | jo | jno => exact ⟨_, rfl, .kept (branchIf_mem s _ _) rfl⟩
  | movMemR8 | movIndR8 | movPairR8 | movMemImm8 => exact ⟨_, rfl, .byte _ _ rfl rfl⟩
  | movMemR16 | movIndR16 | movPairR16 | movMemImm16 => exact ⟨_, rfl, .word _ _ rfl rfl⟩
  | pushR16 | call => exact ⟨_, rfl, .word _ _ (storeTop_decSp_mem s _) (by rw [sub_two_add_one]; rfl)⟩
  | _ => exact ⟨_, rfl, .kept rfl rfl⟩

/-- Settles O19: the one store that an instruction may make is at the addresses of its row. -/
theorem memoryChangesOnlyWhereStored : Obligations.MemoryChangesOnlyWhereStored := by
  intro i s
  obtain ⟨t, runs, effect⟩ := exec_memory i s
  refine ⟨t, runs, fun a outside => ?_⟩
  cases effect with
  | kept same addrs => exact congrArg (Memory.read · a.toNat) same
  | byte b v stored addrs =>
    rw [addrs, List.mem_singleton] at outside
    exact (congrArg (Memory.read · a.toNat) stored).trans (mem8_setMem8_other s v outside)
  | word b v stored addrs =>
    rw [addrs, List.mem_pair, not_or] at outside
    obtain ⟨notLow, notHigh⟩ := outside
    refine (congrArg (Memory.read · a.toNat) stored).trans ((mem8_setMem16 s b a v).trans ?_)
    rw [if_neg notLow, secondByteAddr, if_neg notHigh]

/-! ## The flags -/

theorem mem_allFlags (f : Flag) : f ∈ ([.carry, .zero, .sign, .overflow] : List Flag) := by
  cases f <;> decide

theorem eq_carry_of_notMem {f : Flag} (h : f ∉ ([.zero, .sign, .overflow] : List Flag)) : f = .carry := by
  revert h; cases f <;> decide

theorem eq_zero_or_sign_of_notMem {f : Flag} (h : f ∉ ([.carry, .overflow] : List Flag)) : f = .zero ∨ f = .sign := by
  revert h; cases f <;> decide

/-- A rotate leaves the flags that its row does not list (43_shift_rotate.md R245 to R248). -/
theorem apply_rotate_keeps_unlisted {w : Nat} (op : ShiftOp) (rotates : op.isShift = false) (byCl : Bool) (n : Nat)
    (v : BitVec w) (old : Flags) {f : Flag} (unlisted : f ∉ ([.carry, .overflow] : List Flag)) :
    (op.apply byCl n v old).2.get f = old.get f := by
  obtain ⟨zero, sign⟩ := apply_rotate_keeps rotates byCl n v old
  obtain rfl | rfl := eq_zero_or_sign_of_notMem unlisted
  · exact zero
  · exact sign

/-- Settles O20: an instruction writes no flag, all but CF, CF and OF, or all four. -/
theorem flagsChangeOnlyByTheirTable : Obligations.FlagsChangeOnlyByTheirTable := by
  intro i s
  cases i with
  | jz | jnz | jc | jnc | js | jns | jo | jno => exact ⟨_, rfl, fun f _ => congrArg (·.get f) (branchIf_flags s _ _)⟩
  | halt | ret | jmp | call | movR16R16 | movR8R8 | movR16Imm | movR8Imm | movR16Mem | movMemR16 | movR16Ind | movIndR16
  | movR16Pair | movPairR16 | movR8Mem | movMemR8 | movR8Ind | movIndR8 | movR8Pair | movPairR8 | movMemImm8
  | movMemImm16 | xchgR16R16 | xchgR8R8 | pushR16 | popR16 => exact ⟨_, rfl, fun _ _ => rfl⟩
  | incR16 | incR8 | decR16 | decR8 => exact ⟨_, rfl, fun f unlisted => eq_carry_of_notMem unlisted ▸ rfl⟩
  | rolR16Imm | rolR16Cl | rolR8Imm | rolR8Cl => exact ⟨_, rfl, fun _ => apply_rotate_keeps_unlisted .rol rfl _ _ _ _⟩
  | rorR16Imm | rorR16Cl | rorR8Imm | rorR8Cl => exact ⟨_, rfl, fun _ => apply_rotate_keeps_unlisted .ror rfl _ _ _ _⟩
  | rclR16Imm | rclR16Cl | rclR8Imm | rclR8Cl => exact ⟨_, rfl, fun _ => apply_rotate_keeps_unlisted .rcl rfl _ _ _ _⟩
  | rcrR16Imm | rcrR16Cl | rcrR8Imm | rcrR8Cl => exact ⟨_, rfl, fun _ => apply_rotate_keeps_unlisted .rcr rfl _ _ _ _⟩
  | _ => exact ⟨_, rfl, fun f unlisted => absurd (mem_allFlags f) unlisted⟩

/-- Settles O7: a step that decodes is an instruction, and any other changes RS alone or nothing. -/
theorem everyStepAnswersNext : Obligations.EveryStepAnswersNext := by
  have runs (i : Instr) (s : State) : ∃ t, exec i s = .next t :=
    have ⟨t, answers, _⟩ := exec_memory i s
    ⟨t, answers⟩
  refine ⟨fun s => ?_, runs⟩
  by_cases running : s.rs = .running
  · cases decoded : decodeFrom s.fetch8 with
    | ok i => rw [step_decoded running decoded]; exact runs i s
    | error e => exact ⟨_, step_decode_fault running decoded⟩
  · exact ⟨s, step_terminal running⟩

end Sys2Proof.Proofs.Effects
end

section
/-! SUPPORT. The invariant of every step: canonical memory, and an RS that is true of the machine (60_exceptions.md R330 to
R338, 10_state.md R21 to R23). -/

namespace Sys2Proof.Proofs.Invariant

open Sys2Proof.Machine
open Sys2Proof.Proofs.RunState Sys2Proof.Proofs.Encoding Sys2Proof.Proofs.Effects Sys2Proof.Proofs.Exceptions

/-! ## The step -/

/-- Settles O1: Running and decoded is the one case of a step that executes. -/
theorem stepRunsDecodedInstruction : Obligations.StepRunsDecodedInstruction :=
  fun _ _ running decoded => step_decoded running decoded

/-- Settles O2: the decoder reads back what the encoder wrote. -/
theorem stepRunsInstructionBytesAtIp : Obligations.StepRunsInstructionBytesAtIp :=
  fun _ _ running bytes => step_decoded running (decodeFrom_of_reads_encode (reads_of_getElem bytes))

/-- Settles O5: the decoder reports the lowest bad byte, and taking a fault writes RS alone. -/
theorem badRegisterFaultsPrecisely : Obligations.BadRegisterFaultsPrecisely :=
  fun s _ _ running opcode bad => step_decode_fault running (decodeFrom_of_badByte ((fetch8_zero s).trans opcode) bad)

/-- Settles O8: neither a step nor a run looks further than RS. -/
theorem terminalStatesAreStuck : Obligations.TerminalStatesAreStuck :=
  fun _ terminal => ⟨step_terminal terminal, runFor_terminal terminal⟩

/-! ## Canonical memory -/

/-- An instruction stores by byte and word stores only, which keep the canonical form. -/
theorem exec_mem_wf {i : Instr} {s t : State} (canonical : s.mem.wf = true) (runs : exec i s = .next t) :
    t.mem.wf = true := by
  obtain ⟨u, answers, effect⟩ := exec_memory i s
  obtain rfl := Host.Outcome.next.inj (answers.symm.trans runs)
  cases effect with
  | kept same => rwa [same]
  | byte a v stored => rw [stored]; exact setMem8_wf a v canonical
  | word a v stored => rw [stored]; exact setMem16_wf a v canonical

/-! ## What RS says -/

/-- The record of a fault raised at decode names what stands at IP. -/
theorem trueOf_takeFault {s : State} {e : DecodeFault} (fails : decodeFrom s.fetch8 = .error e) :
    (s.takeFault e).rs.TrueOf (s.takeFault e) := by
  cases e with
  | unknownOpcode op =>
    obtain ⟨atIp, unassigned⟩ := opMap_of_unknownOpcode fails
    exact ⟨rfl, atIp.trans (fetch8_zero s), unassigned⟩
  | badRegister code => exact ⟨rfl, fails⟩

/-- After HALT the byte before IP is its opcode. -/
theorem trueOf_halt {s t : State} (decoded : decodeFrom s.fetch8 = .ok .halt) (runs : exec .halt s = .next t) :
    t.rs.TrueOf t := by
  obtain rfl := Host.Outcome.next.inj runs
  obtain ⟨v, opcode, operands⟩ := decodeFrom_eq_ok decoded
  obtain rfl := variant_of_decodeOperands operands
  show s.mem8 (instrAddr s.ip 1 - 1) = Variant.opcode .halt
  rw [instrAddr_eq, BitVec.ofNat_eq_ofNat, BitVec.add_sub_cancel, ← fetch8_zero]
  exact opcode

/-- HALT leaves RS Halted behind its own opcode; every other instruction leaves it Running. -/
theorem trueOf_exec {i : Instr} {s t : State} (running : s.rs = .running) (decoded : decodeFrom s.fetch8 = .ok i)
    (runs : exec i s = .next t) : t.rs.TrueOf t := by
  by_cases halts : i = .halt
  · subst halts
    exact trueOf_halt decoded runs
  · obtain ⟨u, answers, keeps⟩ := exec_rs_of_ne_halt s halts
    obtain rfl := Host.Outcome.next.inj (answers.symm.trans runs)
    rw [keeps, running]
    trivial

/-- Settles O12: by the three things a step can do. -/
theorem stepKeepsInv : Obligations.StepKeepsInv := by
  intro s t inv answers
  obtain ⟨-, rfl⟩ | ⟨-, e, fails, rfl⟩ | ⟨running, i, decoded, runs⟩ := step_cases answers
  · exact inv
  · exact ⟨inv.mem, trueOf_takeFault fails⟩
  · exact ⟨exec_mem_wf inv.mem runs, trueOf_exec running decoded runs⟩

/-- Settles O11: the reset memory lists no byte, and Running says nothing. -/
theorem resetSatisfiesInv : Obligations.ResetSatisfiesInv := ⟨reset_mem_wf, trivial⟩

end Sys2Proof.Proofs.Invariant
end

section
/-! SUPPORT. Images and placed bytes, and the machine that runs them (60_exceptions.md R345 to R351). -/

namespace Sys2Proof.Proofs.ResetAndLoad

open Sys2Proof.Machine
open Sys2Proof.Proofs.RunState Sys2Proof.Proofs.Encoding Sys2Proof.Proofs.Exceptions

/-! ## Stored bytes -/

/-- All that storing at most 65,536 bytes from `a` up does to a byte read: the byte of the list that stands there, if any. -/
theorem mem8_storeBytes (s : State) (a c : Addr) {bs : List Byte} (fits : bs.length ≤ 65536) :
    (s.storeBytes a bs).mem8 c = bs[(c - a).toNat]?.getD (s.mem8 c) := by
  induction bs generalizing s a with
  | nil => rfl
  | cons b bs ih =>
    rw [List.length_cons] at fits
    rw [State.storeBytes, ih _ _ (by omega), mem8_setMem8]
    by_cases first : c = a
    · have behind : bs.length ≤ (c - (a + 1)).toNat := by rw [first]; bv_omega
      rw [List.getElem?_eq_none behind, if_pos first, first, BitVec.sub_self]
      rfl
    · have next : (c - a).toNat = (c - (a + 1)).toNat + 1 := by bv_omega
      rw [if_neg first, next, List.getElem?_cons_succ]

/-- Settles O14: the image is stored from address 0 up. -/
theorem loadReplacesImageBytes : Obligations.LoadReplacesImageBytes := by
  refine fun s image => ⟨fun fits => ?loaded, fun long => ?refused⟩
  case loaded =>
    refine ⟨s.storeBytes 0 image, load_eq_some_iff.mpr ⟨fits, rfl⟩, fun k inside => ?image, fun a above => ?rest,
      fun r => ?regs, storeBytes_ip s 0 image, storeBytes_flags s 0 image, storeBytes_rs s 0 image⟩
    case image =>
      have place : (BitVec.ofNat 16 k - 0).toNat = k := by
        rw [BitVec.ofNat_eq_ofNat, BitVec.sub_zero, BitVec.toNat_ofNat, Nat.mod_eq_of_lt (by omega)]
      rw [mem8_storeBytes s 0 _ fits, place, List.getElem?_eq_getElem inside, Option.getD_some]
    case rest =>
      rw [mem8_storeBytes s 0 a fits, BitVec.ofNat_eq_ofNat, BitVec.sub_zero, List.getElem?_eq_none above, Option.getD_none]
    case regs => exact congrArg (·.get r) (storeBytes_regs s 0 image)
  case refused =>
    have none : s.load image = none := if_neg (by simpa using long)
    exact ⟨none, by rw [State.apply, none]; rfl⟩

/-- The bytes of a placed table word are what the next step fetches. -/
theorem fetch8_withFetchWord (s : State) (nbits w : Nat) {k : Nat} (inside : k < 5) :
    (s.withFetchWord nbits w).fetch8 k = (tableBytes nbits w).getD k 0 := by
  have place : (s.ip + BitVec.ofNat 16 k - s.ip).toNat = k := by
    rw [BitVec.add_comm, BitVec.add_sub_cancel, BitVec.toNat_ofNat, Nat.mod_eq_of_lt (by omega)]
  have keepsIp : (s.withFetchWord nbits w).ip = s.ip := storeBytes_ip _ _ _
  have length : (tableBytes nbits w).length = 5 := rfl
  rw [fetch8_eq, keepsIp]
  refine (mem8_storeBytes s s.ip (s.ip + BitVec.ofNat 16 k) (by omega)).trans ?_
  rw [place, List.getD, List.getElem?_eq_getElem (by omega)]
  rfl

/-- Settles O3: the five bytes placed are those the decoder looks at. -/
theorem stepRunsPlacedTableWord : Obligations.StepRunsPlacedTableWord := by
  intro s nbits w i table
  have decoded : decodeFrom (fun k => (tableBytes nbits w).getD k 0) = .ok i := by
    unfold decodeTableWord at table
    split at table
    · next bytes =>
      cases table
      exact decodeFrom_of_decodeBytes bytes
    · cases table
  refine step_decoded rfl ?_
  rw [decodeFrom_congr fun k inside => fetch8_withFetchWord s nbits w inside]
  exact decoded

/-! ## Reset -/

/-- Settles O10: the fields of the reset state, register by register. -/
theorem resetState : Obligations.ResetState := by
  refine ⟨fun r notSp => ?_, rfl, rfl, rfl, fun _ => rfl, rfl⟩
  cases r with
  | sp => exact absurd rfl notSp
  | _ => rfl

/-! ## Run -/

theorem runFor_succ {s t : State} (n : Nat) (running : s.rs = .running) (answers : step s = .next t) :
    runFor (n + 1) s = runFor n t := by
  simp only [runFor, running, answers]

/-- A run of `m + n` steps is the run of `m` and then of `n`. -/
theorem runFor_add {s t : State} {m : Nat} (n : Nat) (runs : runFor m s = .next t) : runFor (m + n) s = runFor n t := by
  induction m generalizing s with
  | zero =>
    obtain rfl := Host.Outcome.next.inj runs
    rw [Nat.zero_add]
  | succ m ih =>
    by_cases running : s.rs = .running
    · obtain ⟨u, answers⟩ : ∃ u, step s = .next u := Effects.everyStepAnswersNext.1 s
      rw [runFor_succ m running answers] at runs
      rw [Nat.succ_add, runFor_succ _ running answers, ih runs]
    · rw [runFor_terminal running] at runs
      obtain rfl := Host.Outcome.next.inj runs
      rw [runFor_terminal running, runFor_terminal running]

/-- A machine whose step changes nothing runs for ever. -/
theorem runFor_fixed {s : State} (running : s.rs = .running) (stays : step s = .next s) (n : Nat) :
    runFor n s = .next s := by
  induction n with
  | zero => rfl
  | succ n ih => rw [runFor_succ n running stays, ih]

/-- Settles O15: by the recursion of `runFor`; a JMP to its own address is a step that changes nothing. -/
theorem runRepeatsStep : Obligations.RunRepeatsStep :=
  ⟨fun _ _ n => runFor_succ n, fun _ n terminal => runFor_terminal terminal n, ⟨rfl, fun _ => rfl⟩,
    fun _ _ _ n => runFor_add n,
    fun s running bytes => runFor_fixed running (Invariant.stepRunsInstructionBytesAtIp s (.jmp s.ip) running bytes)⟩

/-! ## Stores and the next fetch -/

/-- Settles O18: the store goes to the address that IP then has. -/
theorem storeIsSeenByNextFetch : Obligations.StoreIsSeenByNextFetch := by
  intro s v running bytes
  obtain ⟨t, runs, ip, stored, still⟩ : ∃ t, exec (.movMemImm8 (s.ip + 4) v) s = .next t ∧ t.ip = s.ip + 4 ∧
      t.mem8 (s.ip + 4) = v ∧ t.rs = .running :=
    ⟨_, rfl, advance_ip _ 4, mem8_setMem8_same s (s.ip + 4) v, running⟩
  have answers := Invariant.stepRunsInstructionBytesAtIp s _ running bytes
  refine ⟨t, answers.trans runs, ip, by rw [fetch8_zero, ip, stored], still, fun unassigned => ?_⟩
  have unknown := step_unassigned still (by rwa [ip, stored])
  rwa [ip, stored] at unknown

end Sys2Proof.Proofs.ResetAndLoad
end

section
/-! SUPPORT. Views, bytes and words as numbers, and the frames of an instruction that writes one register or one place of
memory (10_state.md R10 to R14, 20_memory.md R42 to R46). -/

namespace Sys2Proof.Proofs.Frames

open Sys2Proof.Machine

/-! ## Bytes of a word, as numbers -/

theorem loByte_eq (v : Word) : loByte v = BitVec.ofNat 8 v.toNat := by
  apply BitVec.eq_of_toNat_eq
  simp [loByte]

theorem hiByte_eq (v : Word) : hiByte v = BitVec.ofNat 8 (v.toNat / 256) := by
  apply BitVec.eq_of_toNat_eq
  simp [hiByte, Nat.shiftRight_eq_div_pow]

theorem toNat_wordOfBytes (lo hi : Byte) : (wordOfBytes lo hi).toNat = lo.toNat + 256 * hi.toNat := by
  rw [wordOfBytes, BitVec.toNat_append, ← Nat.shiftLeft_add_eq_or_of_lt lo.isLt, Nat.shiftLeft_eq]
  omega

theorem wordOfBytes_eq (lo hi : Byte) : wordOfBytes lo hi = BitVec.ofNat 16 (lo.toNat + 256 * hi.toNat) := by
  apply BitVec.eq_of_toNat_eq
  rw [toNat_wordOfBytes, BitVec.toNat_ofNat, Nat.mod_eq_of_lt (by omega)]

/-! ## Views -/

theorem get8_of_low (s : State) {r : Reg8} (low : isHighView r = false) : s.get8 r = loByte (s.get16 (parentOf r)) := by
  rw [State.get8, low]; rfl

theorem get8_of_high (s : State) {r : Reg8} (high : isHighView r = true) : s.get8 r = hiByte (s.get16 (parentOf r)) := by
  rw [State.get8, high]; rfl

theorem get16_set8_of_low (s : State) {r : Reg8} (low : isHighView r = false) (v : Byte) :
    (s.set8 r v).get16 (parentOf r) = wordOfBytes v (hiByte (s.get16 (parentOf r))) := by
  rw [State.set8, low, get16_set16_same]; rfl

theorem get16_set8_of_high (s : State) {r : Reg8} (high : isHighView r = true) (v : Byte) :
    (s.set8 r v).get16 (parentOf r) = wordOfBytes (loByte (s.get16 (parentOf r))) v := by
  rw [State.set8, high, get16_set16_same]; rfl

/-- All that a write of a view can do to a read of one. -/
theorem get8_set8 (s : State) (r q : Reg8) (v : Byte) : (s.set8 r v).get8 q = if q = r then v else s.get8 q := by
  split
  · next same => rw [same, get8_set8_same]
  · next other => exact get8_set8_other s v other

/-- Settles O16: the ten views are the two halves of the five parents. -/
theorem viewsAliasTheirParent : Obligations.ViewsAliasTheirParent := by
  intro p listed s v b
  have halves : ∀ p ∈ ([(.ax, .al, .ah), (.bx, .bl, .bh), (.cx, .cl, .ch), (.dx, .dl, .dh), (.ex, .el, .eh)] :
      List (Reg16 × Reg8 × Reg8)), (parentOf p.2.1 = p.1 ∧ isHighView p.2.1 = false) ∧
        parentOf p.2.2 = p.1 ∧ isHighView p.2.2 = true := by decide
  obtain ⟨⟨lowParent, low⟩, highParent, high⟩ := halves p listed
  have readLow := get8_of_low s low
  have readHigh := get8_of_high s high
  have writeLow := get16_set8_of_low s low b
  have writeHigh := get16_set8_of_high s high b
  rw [lowParent] at readLow writeLow
  rw [highParent] at readHigh writeHigh
  have word : (s.get16 p.1).toNat < 65536 := (s.get16 p.1).isLt
  refine ⟨readLow.trans (loByte_eq _), readHigh.trans (hiByte_eq _), ?low, ?high, get16_set16_same s p.1 v,
    fun r other => ⟨get16_set8_other s b (lowParent ▸ other), get16_set8_other s b (highParent ▸ other),
      get16_set16_other s v other⟩⟩
  case low =>
    rw [writeLow, toNat_wordOfBytes, hiByte_eq, BitVec.toNat_ofNat]
    omega
  case high =>
    rw [writeHigh, toNat_wordOfBytes, loByte_eq, BitVec.toNat_ofNat]
    omega

/-! ## Words of memory -/

theorem toNat_mem16 (s : State) (a : Addr) : (s.mem16 a).toNat = (s.mem8 a).toNat + 256 * (s.mem8 (a + 1)).toNat :=
  toNat_wordOfBytes _ _

theorem mem16_eq (s : State) (a : Addr) :
    s.mem16 a = BitVec.ofNat 16 ((s.mem8 a).toNat + 256 * (s.mem8 (a + 1)).toNat) :=
  wordOfBytes_eq _ _

/-- Settles O17: the read-after-write laws, with the halves of a word as numbers. -/
theorem memoryAccessLaws : Obligations.MemoryAccessLaws :=
  ⟨fun s a b v => mem8_setMem8 s a b v, toNat_mem16,
    fun s a b v => (mem8_setMem16 s a b v).trans (by rw [loByte_eq, hiByte_eq]; rfl), mem16_setMem16_same⟩

/-! ## Frames -/

theorem result16_writeBack16 (s : State) (d : Reg16) (r : Word × Flags) (n : Nat) :
    Result16 s ((s.writeBack16 d r).advance n) d r n :=
  ⟨{ dest := get16_writeBack16_same s d r
     others := fun _ other => get16_writeBack16_other s r other
     mem := fun _ => rfl
     ip := advance_ip _ n
     rs := rfl }, rfl⟩

theorem result8_writeBack8 (s : State) (d : Reg8) (r : Byte × Flags) (n : Nat) :
    Result8 s ((s.writeBack8 d r).advance n) d r n :=
  ⟨{ dest := get8_writeBack8_same s d r
     otherViews := fun _ other => get8_writeBack8_other s r other
     others := fun _ other => get16_writeBack8_other s r other
     mem := fun _ => rfl
     ip := advance_ip _ n
     rs := rfl }, rfl⟩

/-- An operation whose result is the reference's leaves the reference's result. -/
theorem result16_of_eq {s : State} {d : Reg16} {r ref : Word × Flags} {n : Nat} (same : r = ref) :
    Result16 s ((s.writeBack16 d r).advance n) d ref n := same ▸ result16_writeBack16 s d r n

theorem result8_of_eq {s : State} {d : Reg8} {r ref : Byte × Flags} {n : Nat} (same : r = ref) :
    Result8 s ((s.writeBack8 d r).advance n) d ref n := same ▸ result8_writeBack8 s d r n

theorem result16_set16 (s : State) (d : Reg16) (v : Word) (n : Nat) :
    Result16 s ((s.set16 d v).advance n) d (v, s.flags) n := result16_writeBack16 s d (v, s.flags) n

theorem result8_set8 (s : State) (d : Reg8) (v : Byte) (n : Nat) :
    Result8 s ((s.set8 d v).advance n) d (v, s.flags) n := result8_writeBack8 s d (v, s.flags) n

theorem stored8_setMem8 (s : State) (a : Addr) (v : Byte) (n : Nat) : Stored8 s ((s.setMem8 a v).advance n) a v n where
  stored := mem8_setMem8_same s a v
  mem _ other := mem8_setMem8_other s v other
  regs _ := rfl
  flags := rfl
  ip := advance_ip _ n
  rs := rfl

theorem stored16_setMem16 (s : State) (a : Addr) (v : Word) (n : Nat) :
    Stored16 s ((s.setMem16 a v).advance n) a v n where
  low := by rw [mem8_advance, mem8_setMem16, if_pos rfl, loByte_eq]
  high := by
    show (s.setMem16 a v).mem8 (secondByteAddr a) = _
    rw [mem8_setMem16, if_neg (secondByteAddr_ne a), if_pos rfl, hiByte_eq]
  mem _ notLow notHigh := by rw [mem8_advance, mem8_setMem16, if_neg notLow, secondByteAddr, if_neg notHigh]
  regs _ := rfl
  flags := rfl
  ip := advance_ip _ n
  rs := rfl

theorem onlyIp_setIp (s : State) (target : Addr) : OnlyIp s (s.setIp target) target where
  ip := rfl
  regs _ := rfl
  flags := rfl
  mem _ := rfl
  rs := rfl

theorem onlyFlags_setFlags (s : State) (f : Flags) (n : Nat) : OnlyFlags s ((s.setFlags f).advance n) f n where
  flags := rfl
  regs _ := rfl
  mem _ := rfl
  ip := advance_ip _ n
  rs := rfl

end Sys2Proof.Proofs.Frames
end

section
/-! SUPPORT. MOV and XCHG (40_data_movement.md R130 to R152). -/

namespace Sys2Proof.Proofs.DataMovement

open Sys2Proof.Machine
open Sys2Proof.Proofs.Frames

/-! ## MOV -/

/-- Settles O30: one register write. -/
theorem movCopiesRegisterOrImmediate : Obligations.MovCopiesRegisterOrImmediate :=
  fun s => ⟨fun d r => ⟨_, rfl, result16_set16 s d (s.get16 r) 3⟩, fun d r => ⟨_, rfl, result8_set8 s d (s.get8 r) 3⟩,
    fun d v => ⟨_, rfl, result16_set16 s d v 4⟩, fun d v => ⟨_, rfl, result8_set8 s d v 3⟩⟩

/-- A word load leaves the number the two bytes form. -/
theorem result16_load16 (s : State) (d : Reg16) (m : MemOperand) (n : Nat) :
    Result16 s ((s.load16 d m).advance n) d
      (BitVec.ofNat 16 ((s.mem8 (s.ea m)).toNat + 256 * (s.mem8 (s.ea m + 1)).toNat), s.flags) n := by
  rw [← mem16_eq]
  exact result16_set16 s d _ n

/-- Settles O31: one register write of the word at the effective address. -/
theorem movLoadsWord : Obligations.MovLoadsWord :=
  fun s => ⟨fun d a => ⟨_, rfl, result16_load16 s d (.direct a) 4⟩, fun d b => ⟨_, rfl, result16_load16 s d (.indirect b) 3⟩,
    fun d b x => ⟨_, rfl, result16_load16 s d (.pair b x) 4⟩⟩

/-- Settles O32: one write of a view, with the byte at the effective address. -/
theorem movLoadsByte : Obligations.MovLoadsByte :=
  fun s => ⟨fun d a => ⟨_, rfl, result8_set8 s d (s.mem8 (s.ea (.direct a))) 4⟩,
    fun d b => ⟨_, rfl, result8_set8 s d (s.mem8 (s.ea (.indirect b))) 3⟩,
    fun d b x => ⟨_, rfl, result8_set8 s d (s.mem8 (s.ea (.pair b x))) 4⟩⟩

/-- Settles O33: one word store. -/
theorem movStoresWord : Obligations.MovStoresWord :=
  fun s => ⟨fun r a => ⟨_, rfl, stored16_setMem16 s (s.ea (.direct a)) (s.get16 r) 4⟩,
    fun b r => ⟨_, rfl, stored16_setMem16 s (s.ea (.indirect b)) (s.get16 r) 3⟩,
    fun b x r => ⟨_, rfl, stored16_setMem16 s (s.ea (.pair b x)) (s.get16 r) 4⟩,
    fun a v => ⟨_, rfl, stored16_setMem16 s (s.ea (.direct a)) v 5⟩⟩

/-- Settles O34: one byte store. -/
theorem movStoresByte : Obligations.MovStoresByte :=
  fun s => ⟨fun r a => ⟨_, rfl, stored8_setMem8 s (s.ea (.direct a)) (s.get8 r) 4⟩,
    fun b r => ⟨_, rfl, stored8_setMem8 s (s.ea (.indirect b)) (s.get8 r) 3⟩,
    fun b x r => ⟨_, rfl, stored8_setMem8 s (s.ea (.pair b x)) (s.get8 r) 4⟩,
    fun a v => ⟨_, rfl, stored8_setMem8 s (s.ea (.direct a)) v 4⟩⟩

/-! ## XCHG -/

/-- Settles O35: the second write decides the second operand, and it is the first operand's old value, so that one register
given twice keeps its value. -/
theorem xchgExchanges : Obligations.XchgExchanges := by
  refine fun s => ⟨fun d r => ?words, fun d r => ?bytes⟩
  case words =>
    refine ⟨_, rfl, ?_, get16_set16_same _ r _, fun q notD notR => ?_, rfl, rfl, advance_ip _ 3, fun _ => rfl⟩
    · rw [get16_advance, get16_set16, get16_set16_same]
      split
      · next same => rw [same]
      · rfl
    · rw [get16_advance, get16_set16_other _ _ notR, get16_set16_other _ _ notD]
  case bytes =>
    refine ⟨_, rfl, ?_, get8_set8_same _ r _, fun q notD notR => ?_, fun q notD notR => ?_, rfl, rfl, advance_ip _ 3,
      fun _ => rfl⟩
    · rw [get8_advance, get8_set8, get8_set8_same]
      split
      · next same => rw [same]
      · rfl
    · rw [get8_advance, get8_set8_other _ _ notR, get8_set8_other _ _ notD]
    · rw [get16_advance, get16_set8_other _ _ notR, get16_set8_other _ _ notD]

end Sys2Proof.Proofs.DataMovement
end

section
/-! SUPPORT. Control transfer, the stack and HALT (44_control_and_stack.md R290 to R304, 45_system.md R320). -/

namespace Sys2Proof.Proofs.Control

open Sys2Proof.Machine
open Sys2Proof.Proofs.Frames Sys2Proof.Proofs.Effects

/-! ## Branches -/

theorem onlyIp_advance (s : State) (n : Nat) : OnlyIp s (s.advance n) (s.ip + BitVec.ofNat 16 n) :=
  instrAddr_eq s.ip n ▸ onlyIp_setIp s (instrAddr s.ip n)

/-- A branch on a flag that is set. -/
theorem onlyIp_branchIf (s : State) (flag : Bool) (target : Addr) :
    OnlyIp s (s.branchIf flag target) (if flag = true then target else s.ip + 3) := by
  cases flag with
  | true => exact onlyIp_setIp s target
  | false => exact onlyIp_advance s 3

/-- A branch on a flag that is clear. -/
theorem onlyIp_branchIf_not (s : State) (flag : Bool) (target : Addr) :
    OnlyIp s (s.branchIf (!flag) target) (if flag = false then target else s.ip + 3) := by
  cases flag with
  | false => exact onlyIp_setIp s target
  | true => exact onlyIp_advance s 3

/-- Settles O55: each branch tests one flag, set or clear. -/
theorem branchResult : Obligations.BranchResult :=
  fun s target => ⟨⟨_, rfl, onlyIp_setIp s target⟩, ⟨_, rfl, onlyIp_branchIf s _ target⟩,
    ⟨_, rfl, onlyIp_branchIf_not s _ target⟩, ⟨_, rfl, onlyIp_branchIf s _ target⟩, ⟨_, rfl, onlyIp_branchIf_not s _ target⟩,
    ⟨_, rfl, onlyIp_branchIf s _ target⟩, ⟨_, rfl, onlyIp_branchIf_not s _ target⟩, ⟨_, rfl, onlyIp_branchIf s _ target⟩,
    ⟨_, rfl, onlyIp_branchIf_not s _ target⟩⟩

/-! ## A pushed word -/

/-- `s` with the word `v` pushed. -/
def pushed (s : State) (v : Word) : State := s.decSp.storeTop v

theorem exec_call (target : Addr) (s : State) : exec (.call target) s = .next ((pushed s (s.ip + 3)).setIp target) := by
  show execCall target s = _
  rw [execCall, instrAddr_eq]
  rfl

/-- The value that PUSH stores: for SP itself, the decremented one (D21). -/
def pushValue (s : State) (r : Reg16) : Word := if r = .sp then s.get16 .sp - 2 else s.get16 r

theorem exec_pushR16 (r : Reg16) (s : State) : exec (.pushR16 r) s = .next ((pushed s (pushValue s r)).advance 2) := by
  show execPushR16 r s = _
  rw [execPushR16, pushValue]
  split
  · next same => rw [same, get16_decSp_sp]; rfl
  · next other => rw [get16_decSp_other s other]; rfl

theorem pushed_sp (s : State) (v : Word) : (pushed s v).get16 .sp = s.get16 .sp - 2 := get16_decSp_sp s

theorem pushed_other (s : State) (v : Word) {r : Reg16} (other : r ≠ .sp) : (pushed s v).get16 r = s.get16 r :=
  get16_decSp_other s other

/-- All that pushing a word does to a byte read. -/
theorem mem8_pushed (s : State) (v : Word) (c : Addr) : (pushed s v).mem8 c =
    if c = s.get16 .sp - 2 then loByte v else if c = s.get16 .sp - 1 then hiByte v else s.mem8 c := by
  refine (congrArg (Memory.read · c.toNat) (storeTop_decSp_mem s v)).trans ?_
  rw [← sub_two_add_one]
  exact mem8_setMem16 s _ c v

theorem mem8_pushed_low (s : State) (v : Word) : (pushed s v).mem8 (s.get16 .sp - 2) = BitVec.ofNat 8 v.toNat := by
  rw [mem8_pushed, if_pos rfl, loByte_eq]

theorem mem8_pushed_high (s : State) (v : Word) : (pushed s v).mem8 (s.get16 .sp - 1) = BitVec.ofNat 8 (v.toNat / 256) := by
  have above : s.get16 .sp - 1 ≠ s.get16 .sp - 2 := by bv_omega
  rw [mem8_pushed, if_neg above, if_pos rfl, hiByte_eq]

theorem mem8_pushed_other (s : State) (v : Word) {c : Addr} (notLow : c ≠ s.get16 .sp - 2) (notHigh : c ≠ s.get16 .sp - 1) :
    (pushed s v).mem8 c = s.mem8 c := by
  rw [mem8_pushed, if_neg notLow, if_neg notHigh]

/-- What was pushed is at the top. -/
theorem loadTop_pushed (s : State) (v : Word) : (pushed s v).loadTop = v := mem16_setMem16_same s.decSp _ v

/-! ## A popped word -/

/-- RET takes the word at the top into IP and moves SP past it. -/
theorem exec_ret (s : State) : exec .ret s = .next (s.incSp.setIp s.loadTop) := rfl

/-- `s` with the word at the top popped into `d`. -/
def popped (s : State) (d : Reg16) : State := (s.set16 d s.loadTop).incSp

theorem exec_popR16 (d : Reg16) (s : State) : exec (.popR16 d) s = .next ((popped s d).advance 2) := rfl

/-- POP SP adds 2 to the word it popped (D21). -/
theorem popped_sp_same (s : State) : (popped s .sp).get16 .sp = s.loadTop + 2 := by
  rw [popped, get16_incSp_sp, get16_set16_same]

theorem popped_sp (s : State) {d : Reg16} (other : d ≠ .sp) : (popped s d).get16 .sp = s.get16 .sp + 2 := by
  rw [popped, get16_incSp_sp, get16_set16_other s _ (Ne.symm other)]

theorem popped_dest (s : State) {d : Reg16} (other : d ≠ .sp) : (popped s d).get16 d = s.loadTop := by
  rw [popped, get16_incSp_other _ other, get16_set16_same]

theorem popped_other (s : State) {d q : Reg16} (notDest : q ≠ d) (notSp : q ≠ .sp) : (popped s d).get16 q = s.get16 q := by
  rw [popped, get16_incSp_other _ notSp, get16_set16_other s _ notDest]

/-! ## CALL, RET, PUSH and POP -/

/-- A word pushed and popped again leaves SP as it was. -/
theorem sub_two_add_two (a : Addr) : a - 2 + 2 = a := BitVec.sub_add_cancel a 2

/-- Settles O56: CALL is a push and a jump, RET takes the word at the top. -/
theorem callAndRetResult : Obligations.CallAndRetResult := by
  refine fun s => ⟨fun target => ?call, ?ret, fun target => ?back⟩
  case call =>
    exact ⟨_, exec_call target s, rfl, pushed_sp s (s.ip + 3), fun _ => pushed_other s (s.ip + 3), rfl, rfl,
      mem8_pushed_low s _, mem8_pushed_high s _, fun _ => mem8_pushed_other s _⟩
  case ret =>
    exact ⟨_, exec_ret s, toNat_mem16 s _, get16_incSp_sp s, fun _ => get16_incSp_other s, rfl, rfl, fun _ => rfl⟩
  case back =>
    refine ⟨_, _, exec_call target s, exec_ret _, loadTop_pushed s _, fun r => ?_⟩
    rw [get16_setIp]
    by_cases isSp : r = .sp
    · rw [isSp, get16_incSp_sp, get16_setIp, pushed_sp, sub_two_add_two]
    · rw [get16_incSp_other _ isSp, get16_setIp, pushed_other s _ isSp]

/-- Settles O57: with D21 for SP itself. -/
theorem pushAndPopResult : Obligations.PushAndPopResult := by
  refine fun s => ⟨fun r => ?push, fun d => ?pop⟩
  case push =>
    exact ⟨_, exec_pushR16 r s, pushed_sp s (pushValue s r), fun _ => pushed_other s (pushValue s r), rfl, rfl,
      advance_ip _ 2, mem8_pushed_low s _, mem8_pushed_high s _, fun _ => mem8_pushed_other s _⟩
  case pop =>
    have top : s.loadTop = BitVec.ofNat 16 ((s.mem8 (s.get16 .sp)).toNat + 256 * (s.mem8 (s.get16 .sp + 1)).toNat) :=
      mem16_eq s _
    rw [← top]
    exact ⟨_, exec_popR16 d s, fun other => ⟨popped_dest s other, popped_sp s other⟩, fun same => same ▸ popped_sp_same s,
      fun _ => popped_other s, rfl, rfl, advance_ip _ 2, fun _ => rfl⟩

/-- Settles O58: POP takes what PUSH stored; with SP among the registers, SP is the last one written (D21). -/
theorem pushThenPopMovesTheValue : Obligations.PushThenPopMovesTheValue := by
  intro s r1 r2
  refine ⟨_, _, exec_pushR16 r1 s, exec_popR16 r2 _, ?ip, rfl, rfl, fun q notDest notSp => ?frame, fun other => ⟨?sp, ?dest⟩,
    fun same => ?popSp⟩
  case ip =>
    have sum : s.ip + 2 + 2 = s.ip + 4 := BitVec.add_assoc s.ip 2 2
    exact (advance_ip _ 2).trans ((congrArg (· + 2) (advance_ip _ 2)).trans sum)
  case frame => exact (popped_other _ notDest notSp).trans (pushed_other s (pushValue s r1) notSp)
  case sp =>
    refine (popped_sp _ other).trans ?_
    rw [get16_advance, pushed_sp, sub_two_add_two]
  case dest => exact (popped_dest _ other).trans (loadTop_pushed s _)
  case popSp =>
    subst same
    refine (popped_sp_same _).trans ((congrArg (· + 2) (loadTop_pushed s _)).trans ?_)
    rw [pushValue]
    split
    · exact sub_two_add_two _
    · rfl

/-! ## HALT -/

/-- Settles O59: HALT writes RS and IP alone. -/
theorem haltResult : Obligations.HaltResult :=
  fun s => ⟨_, rfl, rfl, rfl, instrAddr_eq s.ip 1, fun _ => rfl, rfl, fun _ => rfl⟩

end Sys2Proof.Proofs.Control
end

section
/-! SUPPORT. The flags of the additions and subtractions as signed and unsigned overflow, at every width (41_arithmetic.md R160
to R193). A `w`-bit number is read with `half w`, the weight of its top bit, so that every step is linear in `half w`. -/

namespace Sys2Proof.Proofs.Arithmetic

open Sys2Proof.Machine
open Sys2Proof.Proofs.FlagRules Sys2Proof.Proofs.Frames

/-! ## Numbers of `w` bits -/

/-- The weight of the top bit. -/
def half (w : Nat) : Int := 2 ^ (w - 1)

theorem half_pos (w : Nat) : 0 < half w := Int.pow_pos (by decide)

theorem two_pow_eq_half {w : Nat} (pos : 0 < w) : (2 : Int) ^ w = 2 * half w := by
  rw [half, mul_comm, ← pow_succ, Nat.sub_add_cancel pos]

theorem toNat_lt_half {w : Nat} (pos : 0 < w) (x : BitVec w) : (x.toNat : Int) < 2 * half w := by
  rw [← two_pow_eq_half pos]
  exact_mod_cast x.isLt

theorem toInt_eq_half {w : Nat} (pos : 0 < w) (x : BitVec w) :
    x.toInt = if half w ≤ x.toNat then (x.toNat : Int) - 2 * half w else x.toNat := by
  have top : x.msb = decide (half w ≤ x.toNat) := by
    rw [BitVec.msb_eq_decide, decide_eq_decide, half]
    exact_mod_cast Iff.rfl
  rw [BitVec.toInt_eq_msb_cond, top, Int.natCast_pow, ← two_pow_eq_half pos]
  simp only [decide_eq_true_eq]
  rfl

theorem fitsSigned_eq_half (w : Nat) (v : Int) : fitsSigned w v = (decide (-half w ≤ v) && decide (v < half w)) := rfl

/-- Truncation of a sum or a difference of two or three numbers: at most one turn. -/
theorem emod_of_window {m v : Int} (low : -m ≤ v) (high : v < 2 * m) :
    v % m = if v < 0 then v + m else if v < m then v else v - m := by
  split
  · rw [← Int.add_emod_right, Int.emod_eq_of_lt (by omega) (by omega)]
  · split
    · rw [Int.emod_eq_of_lt (by omega) (by omega)]
    · rw [← Int.sub_emod_right, Int.emod_eq_of_lt (by omega) (by omega)]

theorem msbW_of_window {w : Nat} (pos : 0 < w) {v : Int} (low : -(2 * half w) ≤ v) (high : v < 2 * (2 * half w)) :
    msbW w v = decide (half w ≤ if v < 0 then v + 2 * half w else if v < 2 * half w then v else v - 2 * half w) := by
  rw [msbW_eq_decide, two_pow_eq_half pos, emod_of_window low high]
  rfl

theorem foldTurns_eq_decide {w : Nat} (y : BitVec w) (c : Bool) :
    foldTurns y c = decide (c.toNat = 1 ∧ (y.toNat : Int) = half w - 1) := by
  have pos : 1 ≤ 2 ^ (w - 1) := Nat.one_le_two_pow
  have place : (y.toNat == 2 ^ (w - 1) - 1) = decide ((y.toNat : Int) = half w - 1) := by
    rw [half, beq_eq_decide, decide_eq_decide.mpr]
    zify [pos]
  rw [foldTurns, place]
  cases c <;> simp

theorem toInt_eq_toNat (c : Bool) : c.toInt = c.toNat := by
  cases c <;> rfl

theorem foldCarry_eq (n : Int) (c : Bool) : foldCarry n c = n + c.toNat :=
  congrArg (n + ·) (toInt_eq_toNat c)

/-! ## The Overflow rules -/

/-- ADC: signed overflow of the three numbers, turned round for the one folded operand whose sign is not that of the source
(R166, D15). -/
theorem flagsAdd_of {w : Nat} (pos : 0 < w) (x y : BitVec w) (c : Bool) :
    (flagsAdd w x.toNat (foldCarry y.toNat c) (x.toNat + foldCarry y.toNat c)).of =
      (!fitsSigned w (x.toInt + y.toInt + c.toInt) ^^ foldTurns y c) := by
  have top := half_pos w
  have xRange := toNat_lt_half pos x
  have yRange := toNat_lt_half pos y
  have bit := Bool.toNat_le c
  rw [flagsAdd, foldCarry_eq, toInt_eq_toNat, msbW_of_window pos (by omega) (by omega),
    msbW_of_window pos (by omega) (by omega), msbW_of_window pos (by omega) (by omega), toInt_eq_half pos, toInt_eq_half pos, fitsSigned_eq_half, foldTurns_eq_decide,
    Bool.eq_iff_iff]
  simp only [← Bool.decide_and, ← decide_not, Bool.and_eq_true, beq_iff_eq, bne_iff_ne, ne_eq, decide_eq_decide]
  split_ifs <;> omega

/-- SBB: as ADC. -/
theorem flagsSub_of {w : Nat} (pos : 0 < w) (x y : BitVec w) (c : Bool) :
    (flagsSub w x.toNat (foldCarry y.toNat c) (x.toNat - foldCarry y.toNat c)).of =
      (!fitsSigned w (x.toInt - y.toInt - c.toInt) ^^ foldTurns y c) := by
  have top := half_pos w
  have xRange := toNat_lt_half pos x
  have yRange := toNat_lt_half pos y
  have bit := Bool.toNat_le c
  rw [flagsSub, foldCarry_eq, toInt_eq_toNat, msbW_of_window pos (by omega) (by omega),
    msbW_of_window pos (by omega) (by omega), msbW_of_window pos (by omega) (by omega), toInt_eq_half pos, toInt_eq_half pos, fitsSigned_eq_half, foldTurns_eq_decide,
    Bool.eq_iff_iff]
  simp only [← Bool.decide_and, ← decide_not, Bool.and_eq_true, beq_iff_eq, bne_iff_ne, ne_eq, decide_eq_decide]
  split_ifs <;> omega

/-- INC: the largest signed number is the only one whose successor does not fit. -/
theorem incOf_eq {w : Nat} (pos : 0 < w) (x : BitVec w) :
    decide ((x.toNat : Int) = 2 ^ (w - 1) - 1) = !fitsSigned w (x.toInt + 1) := by
  have top := half_pos w
  have range := toNat_lt_half pos x
  change decide ((x.toNat : Int) = half w - 1) = _
  rw [toInt_eq_half pos, fitsSigned_eq_half, ← Bool.decide_and, ← decide_not, decide_eq_decide]
  split_ifs <;> omega

/-- DEC: the smallest signed number is the only one whose predecessor does not fit. -/
theorem decOf_eq {w : Nat} (pos : 0 < w) (x : BitVec w) :
    decide ((x.toNat : Int) = 2 ^ (w - 1)) = !fitsSigned w (x.toInt - 1) := by
  have top := half_pos w
  have range := toNat_lt_half pos x
  change decide ((x.toNat : Int) = half w) = _
  rw [toInt_eq_half pos, fitsSigned_eq_half, ← Bool.decide_and, ← decide_not, decide_eq_decide]
  split_ifs <;> omega

/-! ## Each operation is its reference -/

theorem addWith_eq_adcRef {w : Nat} (pos : 0 < w) (x y : BitVec w) (c : Bool) :
    addWith x (foldCarry y.toNat c) = adcRef x y c := by
  have value : truncW w (x.toNat + foldCarry y.toNat c) = x + y + bitW w c := addWith_fold_value x y c
  have carry : decide ((x.toNat + foldCarry y.toNat c : Int) > maxW w) = decide (2 ^ w ≤ x.toNat + y.toNat + c.toNat) := by
    rw [decide_eq_decide, foldCarry_eq, maxW]
    zify
    omega
  have overflow := flagsAdd_of pos x y c
  simp only [flagsAdd, msbW, value] at overflow
  simp only [addWith, adcRef, flagsAdd, zeroW, msbW, value, carry]
  rw [overflow]

theorem subWith_eq_sbbRef {w : Nat} (pos : 0 < w) (x y : BitVec w) (c : Bool) :
    subWith x (foldCarry y.toNat c) = sbbRef x y c := by
  have value : truncW w (x.toNat - foldCarry y.toNat c) = x - y - bitW w c := subWith_fold_value x y c
  have borrow : decide ((x.toNat : Int) < foldCarry y.toNat c) = decide (x.toNat < y.toNat + c.toNat) := by
    rw [decide_eq_decide, foldCarry_eq]
    zify
  have overflow := flagsSub_of pos x y c
  simp only [flagsSub, msbW, value] at overflow
  simp only [subWith, sbbRef, flagsSub, zeroW, msbW, value, borrow]
  rw [overflow]

/-- Without a carry nothing is folded. -/
theorem adcRef_false {w : Nat} (x y : BitVec w) : adcRef x y false = addRef x y := by
  simp [adcRef, addRef, bitW, foldTurns]

theorem sbbRef_false {w : Nat} (x y : BitVec w) : sbbRef x y false = subRef x y := by
  have equal : (x - y == 0#w) = (x == y) := by
    rw [Bool.eq_iff_iff, beq_iff_eq, beq_iff_eq, BitVec.sub_eq_iff_eq_add, BitVec.zero_add]
  simp [sbbRef, subRef, bitW, foldTurns, equal]

theorem foldCarry_false (n : Int) : foldCarry n false = n := add_zero n

theorem addWith_eq_addRef {w : Nat} (pos : 0 < w) (x y : BitVec w) : addWith x y.toNat = addRef x y := by
  rw [← adcRef_false, ← addWith_eq_adcRef pos, foldCarry_false]

theorem subWith_eq_subRef {w : Nat} (pos : 0 < w) (x y : BitVec w) : subWith x y.toNat = subRef x y := by
  rw [← sbbRef_false, ← subWith_eq_sbbRef pos, foldCarry_false]

theorem incWith_eq_incRef {w : Nat} (pos : 0 < w) (x : BitVec w) (old : Flags) : incWith x old = incRef x old := by
  have value : truncW w (x.toNat + 1) = x + 1#w := by rw [truncW_add, truncW_toNat]; rfl
  simp only [incWith, flagsInc, incRef, zeroW, msbW, value, incOf_eq pos]
  rfl

theorem decWith_eq_decRef {w : Nat} (pos : 0 < w) (x : BitVec w) (old : Flags) : decWith x old = decRef x old := by
  have value : truncW w (x.toNat - 1) = x - 1#w := by rw [truncW_sub, truncW_toNat]; rfl
  have equal : (x - 1#w == 0#w) = (x == 1#w) := by
    rw [Bool.eq_iff_iff, beq_iff_eq, beq_iff_eq, BitVec.sub_eq_iff_eq_add, BitVec.zero_add]
  simp only [decWith, flagsDec, decRef, zeroW, msbW, value, equal, decOf_eq pos]
  rfl

/-! ## The instructions -/

theorem pos16 : 0 < 16 := by decide
theorem pos8 : 0 < 8 := by decide

/-- Settles O39: ADD is ADC without a carry. -/
theorem addResult : Obligations.AddResult := fun _ =>
  ⟨fun _ _ => ⟨_, rfl, result16_of_eq (addWith_eq_addRef pos16 _ _)⟩,
    fun _ _ => ⟨_, rfl, result8_of_eq (addWith_eq_addRef pos8 _ _)⟩,
    fun _ _ => ⟨_, rfl, result16_of_eq (addWith_eq_addRef pos16 _ _)⟩,
    fun _ _ => ⟨_, rfl, result8_of_eq (addWith_eq_addRef pos8 _ _)⟩⟩

/-- Settles O40: by `flagsAdd_of` at both widths. -/
theorem adcResult : Obligations.AdcResult := fun _ =>
  ⟨fun _ _ => ⟨_, rfl, result16_of_eq (addWith_eq_adcRef pos16 _ _ _)⟩,
    fun _ _ => ⟨_, rfl, result8_of_eq (addWith_eq_adcRef pos8 _ _ _)⟩,
    fun _ _ => ⟨_, rfl, result16_of_eq (addWith_eq_adcRef pos16 _ _ _)⟩,
    fun _ _ => ⟨_, rfl, result8_of_eq (addWith_eq_adcRef pos8 _ _ _)⟩⟩

/-- Settles O41: SUB is SBB without a carry. -/
theorem subResult : Obligations.SubResult := fun _ =>
  ⟨fun _ _ => ⟨_, rfl, result16_of_eq (subWith_eq_subRef pos16 _ _)⟩,
    fun _ _ => ⟨_, rfl, result8_of_eq (subWith_eq_subRef pos8 _ _)⟩,
    fun _ _ => ⟨_, rfl, result16_of_eq (subWith_eq_subRef pos16 _ _)⟩,
    fun _ _ => ⟨_, rfl, result8_of_eq (subWith_eq_subRef pos8 _ _)⟩⟩

/-- Settles O42: by `flagsSub_of` at both widths. -/
theorem sbbResult : Obligations.SbbResult := fun _ =>
  ⟨fun _ _ => ⟨_, rfl, result16_of_eq (subWith_eq_sbbRef pos16 _ _ _)⟩,
    fun _ _ => ⟨_, rfl, result8_of_eq (subWith_eq_sbbRef pos8 _ _ _)⟩,
    fun _ _ => ⟨_, rfl, result16_of_eq (subWith_eq_sbbRef pos16 _ _ _)⟩,
    fun _ _ => ⟨_, rfl, result8_of_eq (subWith_eq_sbbRef pos8 _ _ _)⟩⟩

/-- Settles O45: the one value whose successor or predecessor does not fit sets OF. -/
theorem incDecResult : Obligations.IncDecResult := fun _ =>
  ⟨fun _ => ⟨_, rfl, result16_of_eq (incWith_eq_incRef pos16 _ _)⟩,
    fun _ => ⟨_, rfl, result8_of_eq (incWith_eq_incRef pos8 _ _)⟩,
    fun _ => ⟨_, rfl, result16_of_eq (decWith_eq_decRef pos16 _ _)⟩,
    fun _ => ⟨_, rfl, result8_of_eq (decWith_eq_decRef pos8 _ _)⟩⟩

/-- CMP writes the flags of the difference. -/
theorem onlyFlags_cmp {w : Nat} (pos : 0 < w) (s : State) (x y : BitVec w) (n : Nat) :
    OnlyFlags s ((s.setFlags (subWith x y.toNat).2).advance n) (subRef x y).2 n := by
  rw [subWith_eq_subRef pos]
  exact onlyFlags_setFlags s _ n

/-- Settles O43: the flags of SUB, and no register written. -/
theorem cmpResult : Obligations.CmpResult := fun s =>
  ⟨fun _ _ => ⟨_, rfl, onlyFlags_cmp pos16 s _ _ 3⟩, fun _ _ => ⟨_, rfl, onlyFlags_cmp pos8 s _ _ 3⟩,
    fun _ _ => ⟨_, rfl, onlyFlags_cmp pos16 s _ _ 4⟩, fun _ _ => ⟨_, rfl, onlyFlags_cmp pos8 s _ _ 3⟩⟩

/-! ## The order that CMP leaves in the flags -/

/-- Signed below: the sign of the difference, corrected by overflow (41_arithmetic.md R167). -/
theorem subRef_slt {w : Nat} (pos : 0 < w) (x y : BitVec w) : ((subRef x y).2.sf != (subRef x y).2.of) = x.slt y := by
  have top := half_pos w
  have xRange := toNat_lt_half pos x
  have yRange := toNat_lt_half pos y
  have sign : (x - y).msb = msbW w (x.toNat - y.toNat) := by rw [msbW, truncW_sub, truncW_toNat, truncW_toNat]
  simp only [subRef, sign, BitVec.slt]
  rw [msbW_of_window pos (by omega) (by omega), toInt_eq_half pos, toInt_eq_half pos, fitsSigned_eq_half, Bool.eq_iff_iff]
  simp only [← Bool.decide_and, ← decide_not, bne_iff_ne, ne_eq, decide_eq_decide, decide_eq_true_eq]
  split_ifs <;> omega

/-- The three orders that a CMP of `x` and `y` leaves in the flags `f`. -/
def OrdersBy {w : Nat} (f : Flags) (x y : BitVec w) : Prop :=
  f.zf = decide (x = y) ∧ f.cf = x.ult y ∧ (f.sf != f.of) = x.slt y

theorem ordersBy_subWith {w : Nat} (pos : 0 < w) (x y : BitVec w) : OrdersBy (subWith x y.toNat).2 x y := by
  rw [subWith_eq_subRef pos]
  exact ⟨beq_eq_decide x y, rfl, subRef_slt pos x y⟩

/-- Settles O44: by `subRef_slt` for the signed order; the other two are read off the reference. -/
theorem cmpOrdersItsOperands : Obligations.CmpOrdersItsOperands := fun _ =>
  ⟨fun _ _ => ⟨_, rfl, ordersBy_subWith pos16 _ _⟩, fun _ _ => ⟨_, rfl, ordersBy_subWith pos8 _ _⟩,
    fun _ _ => ⟨_, rfl, ordersBy_subWith pos16 _ _⟩, fun _ _ => ⟨_, rfl, ordersBy_subWith pos8 _ _⟩⟩

/-! ## Logic -/

theorem logicWith_eq_logicRef {w : Nat} (r : BitVec w) : logicWith r = logicRef r := rfl

/-- Settles O46: every form writes a logic result back. -/
theorem logicResult : Obligations.LogicResult := by
  refine fun s => ⟨?and16, ?and8, ?and16i, ?and8i, ?or16, ?or8, ?or16i, ?or8i, ?xor16, ?xor8, ?xor16i, ?xor8i, ?not16, ?not8⟩
  case not16 => exact fun _ => ⟨_, rfl, result16_of_eq (logicWith_eq_logicRef _)⟩
  case not8 => exact fun _ => ⟨_, rfl, result8_of_eq (logicWith_eq_logicRef _)⟩
  case and16 | and16i | or16 | or16i | xor16 | xor16i => exact fun _ _ => ⟨_, rfl, result16_of_eq (logicWith_eq_logicRef _)⟩
  case and8 | and8i | or8 | or8i | xor8 | xor8i => exact fun _ _ => ⟨_, rfl, result8_of_eq (logicWith_eq_logicRef _)⟩

end Sys2Proof.Proofs.Arithmetic
end

section
/-! SUPPORT. The loop of single-bit iterations as one shift or rotation by the whole count, at every width and for every count
(43_shift_rotate.md R240 to R277). -/

namespace Sys2Proof.Proofs.Shifts

open Sys2Proof.Machine
open Sys2Proof.Proofs.Frames

/-! ## Single bits and rotations by one -/

theorem getLsbD_bitW {w i : Nat} (inside : i < w) (b : Bool) : (bitW w b).getLsbD i = (decide (i = 0) && b) := by
  cases b with
  | false => exact BitVec.getLsbD_zero.trans (Bool.and_false _).symm
  | true =>
    refine BitVec.getLsbD_one.trans ?_
    simp [show 0 < w by omega]

/-- A bit of a rotation to the left, from the turn `n % w`. -/
theorem getLsbD_rotateLeft_inside {w i : Nat} (x : BitVec w) (n : Nat) (inside : i < w) :
    (x.rotateLeft n).getLsbD i = if i < n % w then x.getLsbD (w - n % w + i) else x.getLsbD (i - n % w) := by
  rw [BitVec.getLsbD_rotateLeft, Bool.cond_decide, decide_eq_true inside, Bool.true_and]

theorem getLsbD_rotateRight_inside {w i : Nat} (x : BitVec w) (n : Nat) (inside : i < w) :
    (x.rotateRight n).getLsbD i = if i < w - n % w then x.getLsbD (n % w + i) else x.getLsbD (i - (w - n % w)) := by
  rw [BitVec.getLsbD_rotateRight, Bool.cond_decide, decide_eq_true inside, Bool.true_and]

/-- A turn to the left by one brings the top bit to the bottom. -/
theorem getLsbD_rotateLeft_one {w i : Nat} (x : BitVec w) (inside : i < w) :
    (x.rotateLeft 1).getLsbD i = if i = 0 then x.getLsbD (w - 1) else x.getLsbD (i - 1) := by
  rw [getLsbD_rotateLeft_inside x 1 inside]
  obtain rfl | wide : w = 1 ∨ 1 < w := by omega
  · simp [show i = 0 by omega]
  · by_cases low : i = 0 <;> simp [Nat.mod_eq_of_lt wide, low]

/-- A turn to the right by one brings the bottom bit to the top. -/
theorem getLsbD_rotateRight_one {w i : Nat} (x : BitVec w) (inside : i < w) :
    (x.rotateRight 1).getLsbD i = if i = w - 1 then x.getLsbD 0 else x.getLsbD (i + 1) := by
  rw [getLsbD_rotateRight_inside x 1 inside]
  obtain rfl | wide : w = 1 ∨ 1 < w := by omega
  · simp [show i = 0 by omega]
  · by_cases high : i = w - 1
    · simp [Nat.mod_eq_of_lt wide, high]
    · simp [Nat.mod_eq_of_lt wide, high, show i < w - 1 by omega, Nat.add_comm]

theorem rotateLeft_zero {w : Nat} {x : BitVec w} : x.rotateLeft 0 = x := by
  apply BitVec.eq_of_getLsbD_eq
  intro i inside
  rw [getLsbD_rotateLeft_inside x 0 inside, Nat.zero_mod]
  rfl

theorem rotateRight_zero {w : Nat} {x : BitVec w} : x.rotateRight 0 = x := by
  apply BitVec.eq_of_getLsbD_eq
  intro i inside
  rw [getLsbD_rotateRight_inside x 0 inside, Nat.zero_mod, if_pos (by omega), Nat.zero_add]

/-- One more turn of a counter below `w`. -/
theorem succ_mod (n w : Nat) (pos : 0 < w) : (n + 1) % w = if n % w + 1 = w then 0 else n % w + 1 := by
  have turns := Nat.div_add_mod n w
  have below := Nat.mod_lt n pos
  split
  · next full => rw [← turns, Nat.add_assoc, full, Nat.add_mod_right, Nat.mul_mod_right]
  · calc (n + 1) % w = (w * (n / w) + (n % w + 1)) % w := by rw [← Nat.add_assoc, turns]
      _ = n % w + 1 := by rw [Nat.mul_add_mod, Nat.mod_eq_of_lt (by omega)]

/-- A rotation by `n + 1` is one by `n` and then one by 1. -/
theorem rotateLeft_succ {w : Nat} (x : BitVec w) (n : Nat) : x.rotateLeft (n + 1) = (x.rotateLeft n).rotateLeft 1 := by
  apply BitVec.eq_of_getLsbD_eq
  intro i inside
  have below := Nat.mod_lt n (show w > 0 by omega)
  rw [getLsbD_rotateLeft_one _ inside, getLsbD_rotateLeft_inside _ _ inside,
    getLsbD_rotateLeft_inside _ _ (show w - 1 < w by omega), getLsbD_rotateLeft_inside _ _ (show i - 1 < w by omega),
    succ_mod n w (by omega)]
  generalize n % w = r at below
  split_ifs <;> grind

theorem rotateRight_succ {w : Nat} (x : BitVec w) (n : Nat) : x.rotateRight (n + 1) = (x.rotateRight n).rotateRight 1 := by
  apply BitVec.eq_of_getLsbD_eq
  intro i inside
  have below := Nat.mod_lt n (show w > 0 by omega)
  rw [getLsbD_rotateRight_one _ inside, getLsbD_rotateRight_inside _ _ inside,
    getLsbD_rotateRight_inside _ _ (show 0 < w by omega), succ_mod n w (by omega)]
  by_cases last : i = w - 1
  · rw [if_pos last]
    generalize n % w = r at below
    split_ifs <;> grind
  · rw [if_neg last, getLsbD_rotateRight_inside _ _ (show i + 1 < w by omega)]
    generalize n % w = r at below
    split_ifs <;> grind

/-! ## One iteration -/

theorem once_sar {w : Nat} (x : BitVec w) (cf : Bool) : ShiftOp.sar.once x cf = (x.sshiftRight 1, x.getLsbD 0) := by
  have value : x >>> 1 ||| x &&& BitVec.twoPow w (w - 1) = x.sshiftRight 1 := by
    apply BitVec.eq_of_getLsbD_eq
    intro i inside
    rw [BitVec.getLsbD_or, BitVec.getLsbD_and, BitVec.getLsbD_twoPow, BitVec.getLsbD_ushiftRight,
      BitVec.getLsbD_sshiftRight, BitVec.msb_eq_getLsbD_last]
    grind
  rw [ShiftOp.once, value]

theorem once_rol {w : Nat} (x : BitVec w) (cf : Bool) : ShiftOp.rol.once x cf = (x.rotateLeft 1, x.msb) := by
  have value : x <<< 1 ||| bitW w x.msb = x.rotateLeft 1 := by
    apply BitVec.eq_of_getLsbD_eq
    intro i inside
    rw [BitVec.getLsbD_or, BitVec.getLsbD_shiftLeft, getLsbD_bitW inside, getLsbD_rotateLeft_one x inside,
      BitVec.msb_eq_getLsbD_last]
    grind
  rw [ShiftOp.once, value]

/-- A bit put at the top. -/
theorem getLsbD_bitW_shiftLeft {w i : Nat} (inside : i < w) (b : Bool) :
    (bitW w b <<< (w - 1)).getLsbD i = (decide (i = w - 1) && b) := by
  rw [BitVec.getLsbD_shiftLeft, getLsbD_bitW (show i - (w - 1) < w by omega)]
  grind

theorem once_ror {w : Nat} (x : BitVec w) (cf : Bool) : ShiftOp.ror.once x cf = (x.rotateRight 1, x.getLsbD 0) := by
  have value : x >>> 1 ||| bitW w (x.getLsbD 0) <<< (w - 1) = x.rotateRight 1 := by
    apply BitVec.eq_of_getLsbD_eq
    intro i inside
    rw [BitVec.getLsbD_or, BitVec.getLsbD_ushiftRight, getLsbD_bitW_shiftLeft inside, getLsbD_rotateRight_one x inside]
    grind
  rw [ShiftOp.once, value]

/-- The value and CF that a ring of `w + 1` bits is made of. -/
def ringOf {w : Nat} (out : BitVec w × Bool) : BitVec (w + 1) := carryRing out.2 out.1

theorem getLsbD_carryRing {w : Nat} (cf : Bool) (x : BitVec w) (i : Nat) :
    (carryRing cf x).getLsbD i = if i = w then cf else x.getLsbD i := BitVec.getLsbD_cons cf x i

/-- An iteration of RCL turns the ring left by one. -/
theorem ringOf_once_rcl {w : Nat} (pos : 0 < w) (x : BitVec w) (cf : Bool) :
    ringOf (ShiftOp.rcl.once x cf) = (carryRing cf x).rotateLeft 1 := by
  apply BitVec.eq_of_getLsbD_eq
  intro i inside
  rw [getLsbD_rotateLeft_one _ inside, ShiftOp.once, ringOf, getLsbD_carryRing, getLsbD_carryRing, getLsbD_carryRing,
    BitVec.getLsbD_or, BitVec.getLsbD_shiftLeft, BitVec.msb_eq_getLsbD_last]
  by_cases top : i = w
  · simp [top, pos.ne', show w - 1 ≠ w by omega]
  · rw [if_neg top, getLsbD_bitW (show i < w by omega)]
    by_cases low : i = 0
    · simp [low]
    · simp [low, show i < w by omega, show i - 1 ≠ w by omega]

/-- An iteration of RCR turns the ring right by one. -/
theorem ringOf_once_rcr {w : Nat} (pos : 0 < w) (x : BitVec w) (cf : Bool) :
    ringOf (ShiftOp.rcr.once x cf) = (carryRing cf x).rotateRight 1 := by
  apply BitVec.eq_of_getLsbD_eq
  intro i inside
  rw [getLsbD_rotateRight_one _ inside, ShiftOp.once, ringOf, getLsbD_carryRing, getLsbD_carryRing, getLsbD_carryRing,
    BitVec.getLsbD_or, BitVec.getLsbD_ushiftRight]
  by_cases top : i = w
  · simp [top, pos.ne]
  · rw [if_neg top, getLsbD_bitW_shiftLeft (show i < w by omega)]
    by_cases high : i = w - 1
    · simp [high, show w - 1 ≠ w by omega, show w - 1 + 1 = w by omega, show 1 + (w - 1) = w by omega]
    · simp [high, top, show i + 1 ≠ w by omega, Nat.add_comm]

/-! ## The loop -/

theorem loop_shl {w : Nat} (pos : 0 < w) (n : Nat) (x : BitVec w) (cf : Bool) :
    ShiftOp.shl.loop (n + 1) x cf = (x <<< (n + 1), decide (n + 1 ≤ w) && x.getLsbD (w - (n + 1))) := by
  have value (n : Nat) : (ShiftOp.shl.loop n x cf).1 = x <<< n := by
    induction n with
    | zero => exact (BitVec.shiftLeft_zero x).symm
    | succ n ih => rw [loop_succ_last, ShiftOp.once, ih, BitVec.shiftLeft_add]
  rw [loop_succ_last, ShiftOp.once, value, ← BitVec.shiftLeft_add, BitVec.msb_eq_getLsbD_last, BitVec.getLsbD_shiftLeft]
  grind

theorem loop_shr {w : Nat} (n : Nat) (x : BitVec w) (cf : Bool) :
    ShiftOp.shr.loop (n + 1) x cf = (x >>> (n + 1), x.getLsbD n) := by
  have value (n : Nat) : (ShiftOp.shr.loop n x cf).1 = x >>> n := by
    induction n with
    | zero => exact (BitVec.ushiftRight_zero x).symm
    | succ n ih => rw [loop_succ_last, ShiftOp.once, ih, BitVec.shiftRight_add]
  rw [loop_succ_last, ShiftOp.once, value, ← BitVec.shiftRight_add, BitVec.getLsbD_ushiftRight]
  rfl

theorem loop_sar {w : Nat} (pos : 0 < w) (n : Nat) (x : BitVec w) (cf : Bool) :
    ShiftOp.sar.loop (n + 1) x cf = (x.sshiftRight (n + 1), if n + 1 ≤ w then x.getLsbD n else x.msb) := by
  have value (n : Nat) : (ShiftOp.sar.loop n x cf).1 = x.sshiftRight n := by
    induction n with
    | zero => exact BitVec.sshiftRight_zero.symm
    | succ n ih => rw [loop_succ_last, once_sar, ih, BitVec.sshiftRight_add]
  rw [loop_succ_last, once_sar, value, ← BitVec.sshiftRight_add, BitVec.getLsbD_sshiftRight]
  simp [pos.ne']

theorem loop_rol {w : Nat} (pos : 0 < w) (n : Nat) (x : BitVec w) (cf : Bool) :
    ShiftOp.rol.loop (n + 1) x cf = (x.rotateLeft (n + 1), (x.rotateLeft (n + 1)).getLsbD 0) := by
  have value (n : Nat) : (ShiftOp.rol.loop n x cf).1 = x.rotateLeft n := by
    induction n with
    | zero => exact rotateLeft_zero.symm
    | succ n ih => rw [loop_succ_last, once_rol, ih, ← rotateLeft_succ]
  rw [loop_succ_last, once_rol, value, rotateLeft_succ x n, getLsbD_rotateLeft_one _ pos, if_pos rfl,
    BitVec.msb_eq_getLsbD_last]

theorem loop_ror {w : Nat} (pos : 0 < w) (n : Nat) (x : BitVec w) (cf : Bool) :
    ShiftOp.ror.loop (n + 1) x cf = (x.rotateRight (n + 1), (x.rotateRight (n + 1)).msb) := by
  have value (n : Nat) : (ShiftOp.ror.loop n x cf).1 = x.rotateRight n := by
    induction n with
    | zero => exact rotateRight_zero.symm
    | succ n ih => rw [loop_succ_last, once_ror, ih, ← rotateRight_succ]
  rw [loop_succ_last, once_ror, value, rotateRight_succ x n, BitVec.msb_eq_getLsbD_last,
    getLsbD_rotateRight_one _ (show w - 1 < w by omega), if_pos rfl]

/-- RCL by `n` turns the ring left by `n`. -/
theorem ringOf_loop_rcl {w : Nat} (pos : 0 < w) (n : Nat) (x : BitVec w) (cf : Bool) :
    ringOf (ShiftOp.rcl.loop n x cf) = (carryRing cf x).rotateLeft n := by
  induction n with
  | zero => exact rotateLeft_zero.symm
  | succ n ih => rw [loop_succ_last, ringOf_once_rcl pos, rotateLeft_succ _ n, ← ih, ringOf]

theorem ringOf_loop_rcr {w : Nat} (pos : 0 < w) (n : Nat) (x : BitVec w) (cf : Bool) :
    ringOf (ShiftOp.rcr.loop n x cf) = (carryRing cf x).rotateRight n := by
  induction n with
  | zero => exact rotateRight_zero.symm
  | succ n ih => rw [loop_succ_last, ringOf_once_rcr pos, rotateRight_succ _ n, ← ih, ringOf]

/-- The value and CF are read off the ring. -/
theorem eq_of_ringOf {w : Nat} {out : BitVec w × Bool} {ring : BitVec (w + 1)} (h : ringOf out = ring) :
    out = (ring.setWidth w, ring.msb) := by
  subst h
  exact Prod.ext (BitVec.setWidth_cons).symm BitVec.msb_cons.symm

/-! ## Each operation is its reference -/

/-- What a shift by a count other than 0 leaves, from what the loop leaves. -/
theorem apply_succ {w : Nat} (op : ShiftOp) (byCl : Bool) (n : Nat) (x v : BitVec w) (cf : Bool) (old : Flags)
    (loop : op.loop (n + 1) x old.cf = (v, cf)) : op.apply byCl (n + 1) x old =
      (v,
        { cf := cf
          zf := if op.isShift then v == 0#w else old.zf
          sf := if op.isShift then v.msb else old.sf
          of := if op.writesOf byCl w (n + 1) then op.ofValue x v cf else old.of }) := by
  rw [ShiftOp.apply, if_neg (Nat.succ_ne_zero n), loop, Config.shiftWritesZs, Bool.and_true]

theorem apply_shl {w : Nat} (pos : 0 < w) (byCl : Bool) (n : Nat) (x : BitVec w) (old : Flags) :
    ShiftOp.shl.apply byCl n x old = shlRef n x old := by
  cases n with
  | zero => rfl
  | succ n =>
    rw [apply_succ .shl byCl n x _ _ old (loop_shl pos n x old.cf), shlRef, if_neg (Nat.succ_ne_zero n)]
    simp [ShiftOp.isShift, ShiftOp.writesOf, ShiftOp.ofValue]

theorem apply_shr {w : Nat} (byCl : Bool) (n : Nat) (x : BitVec w) (old : Flags) :
    ShiftOp.shr.apply byCl n x old = shrRef n x old := by
  cases n with
  | zero => rfl
  | succ n =>
    rw [apply_succ .shr byCl n x _ _ old (loop_shr n x old.cf), shrRef, if_neg (Nat.succ_ne_zero n)]
    simp [ShiftOp.isShift, ShiftOp.writesOf, ShiftOp.ofValue]

theorem apply_sar {w : Nat} (pos : 0 < w) (byCl : Bool) (n : Nat) (x : BitVec w) (old : Flags) :
    ShiftOp.sar.apply byCl n x old = sarRef n x old := by
  cases n with
  | zero => rfl
  | succ n =>
    rw [apply_succ .sar byCl n x _ _ old (loop_sar pos n x old.cf), sarRef, if_neg (Nat.succ_ne_zero n)]
    simp [ShiftOp.isShift, ShiftOp.writesOf, ShiftOp.ofValue]

theorem apply_rol {w : Nat} (pos : 0 < w) (byCl : Bool) (n : Nat) (x : BitVec w) (old : Flags) :
    ShiftOp.rol.apply byCl n x old = rolRef byCl n x old := by
  cases n with
  | zero => rfl
  | succ n =>
    rw [apply_succ .rol byCl n x _ _ old (loop_rol pos n x old.cf), rolRef, if_neg (Nat.succ_ne_zero n)]
    rfl

theorem apply_ror {w : Nat} (pos : 0 < w) (byCl : Bool) (n : Nat) (x : BitVec w) (old : Flags) :
    ShiftOp.ror.apply byCl n x old = rorRef byCl n x old := by
  cases n with
  | zero => rfl
  | succ n =>
    rw [apply_succ .ror byCl n x _ _ old (loop_ror pos n x old.cf), rorRef, if_neg (Nat.succ_ne_zero n)]
    rfl

theorem apply_rcl {w : Nat} (pos : 0 < w) (byCl : Bool) (n : Nat) (x : BitVec w) (old : Flags) :
    ShiftOp.rcl.apply byCl n x old = rclRef byCl n x old := by
  cases n with
  | zero => rfl
  | succ n =>
    rw [apply_succ .rcl byCl n x _ _ old (eq_of_ringOf (ringOf_loop_rcl pos (n + 1) x old.cf)), rclRef,
      if_neg (Nat.succ_ne_zero n)]
    rfl

theorem apply_rcr {w : Nat} (pos : 0 < w) (byCl : Bool) (n : Nat) (x : BitVec w) (old : Flags) :
    ShiftOp.rcr.apply byCl n x old = rcrRef byCl n x old := by
  cases n with
  | zero => rfl
  | succ n =>
    rw [apply_succ .rcr byCl n x _ _ old (eq_of_ringOf (ringOf_loop_rcr pos (n + 1) x old.cf)), rcrRef,
      if_neg (Nat.succ_ne_zero n)]
    rfl

/-! ## The four forms

The reference of an operation by an immediate and by CL, and that the operation is its reference. -/

section
variable {op : ShiftOp} {ref16 : Nat → Word → Flags → Word × Flags} {ref8 : Nat → Byte → Flags → Byte × Flags}

theorem result16_imm (same : ∀ n x old, op.apply false n x old = ref16 n x old) (s : State) (d : Reg16) (n : Byte) :
    Result16 s ((s.shift16 op d (.imm n)).advance 3) d (ref16 n.toNat (s.get16 d) s.flags) 3 :=
  result16_of_eq ((congrArg (op.apply false · (s.get16 d) s.flags) (count_imm s n)).trans (same _ _ _))

theorem result16_cl (same : ∀ n x old, op.apply true n x old = ref16 n x old) (s : State) (d : Reg16) :
    Result16 s ((s.shift16 op d .cl).advance 3) d (ref16 (s.get8 .cl).toNat (s.get16 d) s.flags) 3 :=
  result16_of_eq ((congrArg (op.apply true · (s.get16 d) s.flags) (count_cl s)).trans (same _ _ _))

theorem result8_imm (same : ∀ n x old, op.apply false n x old = ref8 n x old) (s : State) (d : Reg8) (n : Byte) :
    Result8 s ((s.shift8 op d (.imm n)).advance 3) d (ref8 n.toNat (s.get8 d) s.flags) 3 :=
  result8_of_eq ((congrArg (op.apply false · (s.get8 d) s.flags) (count_imm s n)).trans (same _ _ _))

theorem result8_cl (same : ∀ n x old, op.apply true n x old = ref8 n x old) (s : State) (d : Reg8) :
    Result8 s ((s.shift8 op d .cl).advance 3) d (ref8 (s.get8 .cl).toNat (s.get8 d) s.flags) 3 :=
  result8_of_eq ((congrArg (op.apply true · (s.get8 d) s.flags) (count_cl s)).trans (same _ _ _))

end

open Arithmetic (pos16 pos8)

/-- Settles O47: by the closed form of the loop, `loop_shl`. -/
theorem shlResult : Obligations.ShlResult := fun s =>
  ⟨fun d n => ⟨_, rfl, result16_imm (apply_shl pos16 false) s d n⟩, fun d => ⟨_, rfl, result16_cl (apply_shl pos16 true) s d⟩,
    fun d n => ⟨_, rfl, result8_imm (apply_shl pos8 false) s d n⟩, fun d => ⟨_, rfl, result8_cl (apply_shl pos8 true) s d⟩⟩

/-- Settles O48: by the closed form of the loop, `loop_shr`. -/
theorem shrResult : Obligations.ShrResult := fun s =>
  ⟨fun d n => ⟨_, rfl, result16_imm (apply_shr false) s d n⟩, fun d => ⟨_, rfl, result16_cl (apply_shr true) s d⟩,
    fun d n => ⟨_, rfl, result8_imm (apply_shr false) s d n⟩, fun d => ⟨_, rfl, result8_cl (apply_shr true) s d⟩⟩

/-- Settles O49: by the closed form of the loop, `loop_sar`. -/
theorem sarResult : Obligations.SarResult := fun s =>
  ⟨fun d n => ⟨_, rfl, result16_imm (apply_sar pos16 false) s d n⟩, fun d => ⟨_, rfl, result16_cl (apply_sar pos16 true) s d⟩,
    fun d n => ⟨_, rfl, result8_imm (apply_sar pos8 false) s d n⟩, fun d => ⟨_, rfl, result8_cl (apply_sar pos8 true) s d⟩⟩

/-- Settles O50: by the closed form of the loop, `loop_rol`. -/
theorem rolResult : Obligations.RolResult := fun s =>
  ⟨fun d n => ⟨_, rfl, result16_imm (apply_rol pos16 false) s d n⟩, fun d => ⟨_, rfl, result16_cl (apply_rol pos16 true) s d⟩,
    fun d n => ⟨_, rfl, result8_imm (apply_rol pos8 false) s d n⟩, fun d => ⟨_, rfl, result8_cl (apply_rol pos8 true) s d⟩⟩

/-- Settles O51: by the closed form of the loop, `loop_ror`. -/
theorem rorResult : Obligations.RorResult := fun s =>
  ⟨fun d n => ⟨_, rfl, result16_imm (apply_ror pos16 false) s d n⟩, fun d => ⟨_, rfl, result16_cl (apply_ror pos16 true) s d⟩,
    fun d n => ⟨_, rfl, result8_imm (apply_ror pos8 false) s d n⟩, fun d => ⟨_, rfl, result8_cl (apply_ror pos8 true) s d⟩⟩

/-- Settles O52: by the closed form of the loop on the ring, `ringOf_loop_rcl`. -/
theorem rclResult : Obligations.RclResult := fun s =>
  ⟨fun d n => ⟨_, rfl, result16_imm (apply_rcl pos16 false) s d n⟩, fun d => ⟨_, rfl, result16_cl (apply_rcl pos16 true) s d⟩,
    fun d n => ⟨_, rfl, result8_imm (apply_rcl pos8 false) s d n⟩, fun d => ⟨_, rfl, result8_cl (apply_rcl pos8 true) s d⟩⟩

/-- Settles O53: by the closed form of the loop on the ring, `ringOf_loop_rcr`. -/
theorem rcrResult : Obligations.RcrResult := fun s =>
  ⟨fun d n => ⟨_, rfl, result16_imm (apply_rcr pos16 false) s d n⟩, fun d => ⟨_, rfl, result16_cl (apply_rcr pos16 true) s d⟩,
    fun d n => ⟨_, rfl, result8_imm (apply_rcr pos8 false) s d n⟩, fun d => ⟨_, rfl, result8_cl (apply_rcr pos8 true) s d⟩⟩

/-! ## A count of 0 -/

theorem shift16_of_count_zero (s : State) (op : ShiftOp) (d : Reg16) {c : CountSrc} (zero : s.count c = 0) :
    Host.Outcome.next (φ := Fault) (ρ := Refusal) ((s.shift16 op d c).advance 3) = .next { s with ip := s.ip + 3 } := by
  rw [State.shift16, zero, apply_zero, writeBack16_self, State.advance, instrAddr_eq]
  rfl

theorem shift8_of_count_zero (s : State) (op : ShiftOp) (d : Reg8) {c : CountSrc} (zero : s.count c = 0) :
    Host.Outcome.next (φ := Fault) (ρ := Refusal) ((s.shift8 op d c).advance 3) = .next { s with ip := s.ip + 3 } := by
  rw [State.shift8, zero, apply_zero, writeBack8_self, State.advance, instrAddr_eq]
  rfl

/-- Settles O54: no iteration, and what is written back is what stood there. -/
theorem shiftByZeroChangesOnlyIp : Obligations.ShiftByZeroChangesOnlyIp := by
  intro s
  have imm : s.count (.imm 0) = 0 := count_imm s 0
  simp only [List.forall_mem_cons, List.not_mem_nil, false_imp_iff, implies_true, and_true]
  refine ⟨?imm16, ?imm8, fun zero => ?cl⟩
  case imm16 =>
    exact ⟨fun d => shift16_of_count_zero s .shl d imm, fun d => shift16_of_count_zero s .shr d imm,
      fun d => shift16_of_count_zero s .sar d imm, fun d => shift16_of_count_zero s .rol d imm,
      fun d => shift16_of_count_zero s .ror d imm, fun d => shift16_of_count_zero s .rcl d imm,
      fun d => shift16_of_count_zero s .rcr d imm⟩
  case imm8 =>
    exact ⟨fun d => shift8_of_count_zero s .shl d imm, fun d => shift8_of_count_zero s .shr d imm,
      fun d => shift8_of_count_zero s .sar d imm, fun d => shift8_of_count_zero s .rol d imm,
      fun d => shift8_of_count_zero s .ror d imm, fun d => shift8_of_count_zero s .rcl d imm,
      fun d => shift8_of_count_zero s .rcr d imm⟩
  case cl =>
    have cl : s.count .cl = 0 := by rw [count_cl, zero]; rfl
    exact ⟨⟨fun d => shift16_of_count_zero s .shl d cl, fun d => shift16_of_count_zero s .shr d cl,
        fun d => shift16_of_count_zero s .sar d cl, fun d => shift16_of_count_zero s .rol d cl,
        fun d => shift16_of_count_zero s .ror d cl, fun d => shift16_of_count_zero s .rcl d cl,
        fun d => shift16_of_count_zero s .rcr d cl⟩,
      fun d => shift8_of_count_zero s .shl d cl, fun d => shift8_of_count_zero s .shr d cl,
      fun d => shift8_of_count_zero s .sar d cl, fun d => shift8_of_count_zero s .rol d cl,
      fun d => shift8_of_count_zero s .ror d cl, fun d => shift8_of_count_zero s .rcl d cl,
      fun d => shift8_of_count_zero s .rcr d cl⟩

end Sys2Proof.Proofs.Shifts
end

section
/-! SUPPORT. The two-pass driver: what it does with the lines before a line, and what the label addresses decide
(30_encoding.md R95 to R105). -/

namespace Sys2Proof.Proofs.Assembly

open Sys2Proof.Machine Sys2Proof.Asm
open Sys2Proof.Proofs.Encoding

/-! ## What the label addresses decide: the target of a branch and nothing else -/

theorem selectBranch_eq_ok_iff {labels : Labels} {mk : Addr → Instr} {ops : List OperandClass} {i : Instr} :
    selectBranch labels mk ops = .ok i ↔
      ∃ name a, ops = [.label name] ∧ labels name = some a ∧ mk (BitVec.ofNat 16 a) = i := by
  unfold selectBranch
  split
  · next name => cases address : labels name <;> simp [address]
  · next other =>
    refine ⟨nofun, ?_⟩
    rintro ⟨name, a, rfl, -, -⟩
    exact absurd rfl (other name)

theorem selectBranch_eq_error_iff {labels : Labels} {mk : Addr → Instr} {ops : List OperandClass} {e : AsmError} :
    selectBranch labels mk ops = .error e ↔
      (∃ name, ops = [.label name] ∧ labels name = none ∧ e = .undefinedLabel) ∨
      (∀ name, ops ≠ [.label name]) ∧ e = .wrongOperands := by
  unfold selectBranch
  split
  · next name => cases address : labels name <;> simp [address, eq_comm]
  · next other =>
    have noLabel : ∀ name, ops ≠ [.label name] := other
    simp [noLabel, eq_comm]

/-- A mnemonic looks at the labels as a branch does, with one variant whatever the target, or not at all. -/
theorem selectForm_labels (m : Mnemonic) :
    (∃ (mk : Addr → Instr) (v : Variant), (∀ a, (mk a).variant = v) ∧
      ∀ labels ops, selectForm labels m ops = selectBranch labels mk ops) ∨
    ∀ labels other ops, selectForm labels m ops = selectForm other m ops := by
  cases m with
  | jmp => exact .inl ⟨.jmp, .jmp, fun _ => rfl, fun _ _ => rfl⟩
  | call => exact .inl ⟨.call, .call, fun _ => rfl, fun _ _ => rfl⟩
  | jz => exact .inl ⟨.jz, .jz, fun _ => rfl, fun _ _ => rfl⟩
  | jnz => exact .inl ⟨.jnz, .jnz, fun _ => rfl, fun _ _ => rfl⟩
  | jc => exact .inl ⟨.jc, .jc, fun _ => rfl, fun _ _ => rfl⟩
  | jnc => exact .inl ⟨.jnc, .jnc, fun _ => rfl, fun _ _ => rfl⟩
  | js => exact .inl ⟨.js, .js, fun _ => rfl, fun _ _ => rfl⟩
  | jns => exact .inl ⟨.jns, .jns, fun _ => rfl, fun _ _ => rfl⟩
  | jo => exact .inl ⟨.jo, .jo, fun _ => rfl, fun _ _ => rfl⟩
  | jno => exact .inl ⟨.jno, .jno, fun _ => rfl, fun _ _ => rfl⟩
  | _ => exact .inr fun _ _ _ => rfl

/-- With labels that are all defined elsewhere too, an accepted form is accepted with the same variant. -/
theorem selectForm_ok {labels other : Labels} (defined : ∀ name, (labels name).isSome → (other name).isSome) {m : Mnemonic}
    {ops : List OperandClass} {i : Instr} (accepted : selectForm labels m ops = .ok i) :
    ∃ j, selectForm other m ops = .ok j ∧ j.variant = i.variant := by
  obtain ⟨mk, v, variant, branch⟩ | same := selectForm_labels m
  · rw [branch] at accepted ⊢
    obtain ⟨name, a, rfl, address, rfl⟩ := selectBranch_eq_ok_iff.mp accepted
    obtain ⟨b, elsewhere⟩ := Option.isSome_iff_exists.mp (defined name (by rw [address]; rfl))
    exact ⟨_, selectBranch_eq_ok_iff.mpr ⟨name, b, rfl, elsewhere, rfl⟩, (variant _).trans (variant _).symm⟩
  · exact ⟨i, (same other labels ops).trans accepted, rfl⟩

/-- With the same labels defined, a refused form is refused with the same error. -/
theorem selectForm_error {labels other : Labels} (same : ∀ name, (labels name).isSome = (other name).isSome) {m : Mnemonic}
    {ops : List OperandClass} {e : AsmError} (refused : selectForm labels m ops = .error e) :
    selectForm other m ops = .error e := by
  obtain ⟨mk, v, -, branch⟩ | independent := selectForm_labels m
  · rw [branch, selectBranch_eq_error_iff] at refused ⊢
    refine refused.imp_left ?_
    rintro ⟨name, label, undefined, kind⟩
    exact ⟨name, label, by rw [← Option.isNone_iff_eq_none, ← Option.not_isSome, ← same, undefined]; rfl, kind⟩
  · exact (independent other labels ops).trans refused

/-- The choice of a line is that of a mnemonic and operand classes, which the labels do not touch, or a refusal without
them. -/
theorem select_labels (m : Text) (ops : List Text) :
    (∃ (form : Mnemonic) (classes : List OperandClass), ∀ labels, select labels m ops = selectForm labels form classes) ∨
    ∃ e, ∀ labels, select labels m ops = .error e := by
  unfold select
  cases mnemonicOfName m with
  | none => exact .inr ⟨_, fun _ => rfl⟩
  | some form =>
    by_cases malformed : (ops.map classify).contains .noClass
    · exact .inr ⟨_, fun _ => if_pos malformed⟩
    · exact .inl ⟨form, ops.map classify, fun _ => if_neg malformed⟩

theorem select_ok {labels other : Labels} (defined : ∀ name, (labels name).isSome → (other name).isSome) {m : Text}
    {ops : List Text} {i : Instr} (accepted : select labels m ops = .ok i) :
    ∃ j, select other m ops = .ok j ∧ j.variant = i.variant := by
  obtain ⟨form, classes, chosen⟩ | ⟨e, refused⟩ := select_labels m ops
  · rw [chosen] at accepted ⊢
    exact selectForm_ok defined accepted
  · cases (refused labels).symm.trans accepted

theorem select_error {labels other : Labels} (same : ∀ name, (labels name).isSome = (other name).isSome) {m : Text}
    {ops : List Text} {e : AsmError} (refused : select labels m ops = .error e) : select other m ops = .error e := by
  obtain ⟨form, classes, chosen⟩ | ⟨always, refuses⟩ := select_labels m ops
  · rw [chosen] at refused ⊢
    exact selectForm_error same refused
  · exact (refuses other).trans ((refuses labels).symm.trans refused)

theorem encodeLine_eq_error_iff {labels : Labels} {m : Text} {ops : List Text} {e : AsmError} :
    encodeLine labels m ops = .error e ↔ select labels m ops = .error e := by
  unfold encodeLine
  cases select labels m ops <;> simp

/-- Settles O28: pass 1 takes every label as defined, which changes no variant. -/
theorem passOneLengthMatchesEmission : Obligations.PassOneLengthMatchesEmission := by
  intro labels number m ops bs line
  obtain ⟨i, accepted, rfl⟩ := encodeLine_eq_ok_iff.mp line
  obtain ⟨j, defined, variant⟩ := select_ok (other := fun _ => some 0) (fun _ _ => rfl) accepted
  simp only [pass1Length, defined, encode_length, variant]

/-! ## Pass 2, line by line -/

section
variable {labels : Labels} {number : Nat} {defined : List Text} {line : Text} {lines : List Text}

theorem pass2_blank (parsed : parseLine line = .blank) :
    pass2 labels number defined (line :: lines) = pass2 labels (number + 1) defined lines := by
  rw [pass2, parsed]

theorem pass2_label_new {name : Text} (parsed : parseLine line = .label name) (new : defined.contains name = false) :
    pass2 labels number defined (line :: lines) = pass2 labels (number + 1) (name :: defined) lines := by
  rw [pass2, parsed]
  exact if_neg (by rw [new]; decide)

theorem pass2_label_again {name : Text} (parsed : parseLine line = .label name) (again : defined.contains name = true) :
    pass2 labels number defined (line :: lines) = .error (.duplicateLabel, number) := by
  rw [pass2, parsed]
  exact if_pos again

theorem pass2_instr_error {m : Text} {ops : List Text} {e : AsmError} (parsed : parseLine line = .instr m ops)
    (refused : encodeLine labels m ops = .error e) : pass2 labels number defined (line :: lines) = .error (e, number) := by
  simp only [pass2, parsed, refused]

theorem pass2_instr_ok {m : Text} {ops : List Text} {bs : List Byte} (parsed : parseLine line = .instr m ops)
    (accepted : encodeLine labels m ops = .ok bs) : pass2 labels number defined (line :: lines) =
      (pass2 labels (number + 1) defined lines).map (bs ++ ·) := by
  simp only [pass2, parsed, accepted]
  cases pass2 labels (number + 1) defined lines <;> rfl

end

/-- Settles O60: along the lines, each is accepted or refused alike. -/
theorem assemblyErrorDoesNotDependOnAddresses : Obligations.AssemblyErrorDoesNotDependOnAddresses := by
  intro labels other same number defined lines e fails
  induction lines generalizing number defined with
  | nil => cases fails
  | cons line lines ih =>
    cases parsed : parseLine line with
    | blank =>
      rw [pass2_blank parsed] at fails ⊢
      exact ih _ _ fails
    | label name =>
      cases again : defined.contains name with
      | true => rw [pass2_label_again parsed again] at fails ⊢; exact fails
      | false =>
        rw [pass2_label_new parsed again] at fails ⊢
        exact ih _ _ fails
    | instr m ops =>
      cases answer : encodeLine labels m ops with
      | error refusal =>
        have alike := encodeLine_eq_error_iff.mpr (select_error same (encodeLine_eq_error_iff.mp answer))
        rw [pass2_instr_error parsed answer] at fails
        rw [pass2_instr_error parsed alike]
        exact fails
      | ok bs =>
        obtain ⟨i, accepted, -⟩ := encodeLine_eq_ok_iff.mp answer
        obtain ⟨j, alike, -⟩ := select_ok (fun name isDefined => same name ▸ isDefined) accepted
        rw [pass2_instr_ok parsed answer] at fails
        rw [pass2_instr_ok parsed (encodeLine_eq_ok_iff.mpr ⟨j, alike, rfl⟩)]
        cases rest : pass2 labels (number + 1) defined lines with
        | ok tail => rw [rest] at fails; cases fails
        | error e' =>
          rw [rest] at fails
          cases fails
          rw [ih _ _ rest]
          rfl

/-! ## The lines before a line -/

/-- The labels that `lines` define, the last one first, before those already defined. -/
def definedAfter (defined : List Text) : List Text → List Text
  | [] => defined
  | line :: lines =>
    match parseLine line with
    | .label name => definedAfter (name :: defined) lines
    | .blank | .instr _ _ => definedAfter defined lines

theorem definedAfter_label {line name : Text} (parsed : parseLine line = .label name) (defined lines : List Text) :
    definedAfter defined (line :: lines) = definedAfter (name :: defined) lines := by
  simp only [definedAfter, parsed]

theorem definedAfter_other {line : Text} (parsed : ∀ name, parseLine line ≠ .label name) (defined lines : List Text) :
    definedAfter defined (line :: lines) = definedAfter defined lines := by
  rw [definedAfter]
  split
  · next name label => exact absurd label (parsed name)
  · rfl
  · rfl

/-- What is defined after some lines was defined before them or by a label line among them. -/
theorem mem_definedAfter_iff {name : Text} {defined lines : List Text} :
    name ∈ definedAfter defined lines ↔ name ∈ defined ∨ ∃ line ∈ lines, parseLine line = .label name := by
  induction lines generalizing defined with
  | nil => simp [definedAfter]
  | cons line lines ih =>
    cases parsed : parseLine line with
    | label found =>
      rw [definedAfter_label parsed, ih]
      simp [parsed, or_assoc, or_left_comm, eq_comm]
    | blank | instr =>
      rw [definedAfter_other (by simp [parsed]), ih]
      simp [parsed]

/-- Pass 2 treats the lines behind others as it treats a program of its own, with the labels already defined. -/
theorem pass2_append (labels : Labels) (number : Nat) (defined before rest : List Text) :
    pass2 labels number defined (before ++ rest) =
      (pass2 labels number defined before).bind fun head =>
        (pass2 labels (number + before.length) (definedAfter defined before) rest).map (head ++ ·) := by
  induction before generalizing number defined with
  | nil =>
    show pass2 labels number defined rest = (pass2 labels number defined rest).map ([] ++ ·)
    cases pass2 labels number defined rest <;> rfl
  | cons line before ih =>
    rw [List.cons_append, List.length_cons, Nat.add_comm before.length 1, ← Nat.add_assoc]
    cases parsed : parseLine line with
    | blank => rw [pass2_blank parsed, pass2_blank parsed, definedAfter_other (by simp [parsed]), ih]
    | label name =>
      rw [definedAfter_label parsed]
      cases again : defined.contains name with
      | true => rw [pass2_label_again parsed again, pass2_label_again parsed again]; rfl
      | false => rw [pass2_label_new parsed again, pass2_label_new parsed again, ih]
    | instr m ops =>
      rw [definedAfter_other (by simp [parsed])]
      cases answer : encodeLine labels m ops with
      | error e => rw [pass2_instr_error parsed answer, pass2_instr_error parsed answer]; rfl
      | ok bs =>
        rw [pass2_instr_ok parsed answer, pass2_instr_ok parsed answer, ih]
        cases pass2 labels (number + 1) defined before with
        | error e => rfl
        | ok head =>
          show Except.map _ (Except.map _ _) = Except.map _ _
          cases pass2 labels (number + 1 + before.length) (definedAfter defined before) rest with
          | error e => rfl
          | ok tail => exact congrArg Except.ok (List.append_assoc bs head tail).symm

/-! ## The label table -/

section
variable {number address : Nat} {line : Text} {lines : List Text}

theorem labelTable_blank (parsed : parseLine line = .blank) :
    labelTable number address (line :: lines) = labelTable (number + 1) address lines := by
  simp only [labelTable, parsed]

theorem labelTable_label {name : Text} (parsed : parseLine line = .label name) :
    labelTable number address (line :: lines) = (name, address) :: labelTable (number + 1) address lines := by
  simp only [labelTable, parsed]

theorem labelTable_instr {m : Text} {ops : List Text} (parsed : parseLine line = .instr m ops) :
    labelTable number address (line :: lines) = labelTable (number + 1) (address + pass1Length number m ops) lines := by
  simp only [labelTable, parsed]

end

/-- An entry of the table is a label line. -/
theorem label_of_mem_labelTable {number address : Nat} {lines : List Text} {p : Text × Nat}
    (entry : p ∈ labelTable number address lines) : ∃ line ∈ lines, parseLine line = .label p.1 := by
  induction lines generalizing number address with
  | nil => cases entry
  | cons line lines ih =>
    have behind {number address : Nat} (later : p ∈ labelTable number address lines) :
        ∃ l ∈ line :: lines, parseLine l = .label p.1 :=
      have ⟨l, mem, parsed⟩ := ih later
      ⟨l, List.mem_cons_of_mem line mem, parsed⟩
    cases parsed : parseLine line with
    | blank => rw [labelTable_blank parsed] at entry; exact behind entry
    | instr => rw [labelTable_instr parsed] at entry; exact behind entry
    | label name =>
      rw [labelTable_label parsed] at entry
      obtain rfl | later := List.mem_cons.mp entry
      · exact ⟨line, List.mem_cons_self, parsed⟩
      · exact behind later

/-- Behind lines that pass 2 accepts, pass 1 has counted as many bytes as they give. -/
theorem labelTable_append {labels : Labels} {number address : Nat} {defined before rest : List Text} {head : List Byte}
    (accepted : pass2 labels number defined before = .ok head) : labelTable number address (before ++ rest) =
      labelTable number address before ++ labelTable (number + before.length) (address + head.length) rest := by
  induction before generalizing number address defined head with
  | nil => cases accepted; rfl
  | cons line before ih =>
    rw [List.cons_append, List.length_cons, Nat.add_comm before.length 1, ← Nat.add_assoc]
    cases parsed : parseLine line with
    | blank =>
      rw [pass2_blank parsed] at accepted
      rw [labelTable_blank parsed, labelTable_blank parsed, ih accepted]
    | label name =>
      cases again : defined.contains name with
      | true => rw [pass2_label_again parsed again] at accepted; cases accepted
      | false =>
        rw [pass2_label_new parsed again] at accepted
        rw [labelTable_label parsed, labelTable_label parsed, ih accepted, List.cons_append]
    | instr m ops =>
      cases answer : encodeLine labels m ops with
      | error e => rw [pass2_instr_error parsed answer] at accepted; cases accepted
      | ok bs =>
        rw [pass2_instr_ok parsed answer] at accepted
        cases later : pass2 labels (number + 1) defined before with
        | error e => rw [later] at accepted; cases accepted
        | ok tail =>
          rw [later] at accepted
          cases accepted
          rw [labelTable_instr parsed, labelTable_instr parsed, ih later,
            passOneLengthMatchesEmission labels number m ops bs answer, List.length_append, Nat.add_assoc address]

/-- The first entry of a name decides. -/
theorem lookup_append {first rest : List (Text × Nat)} {name : Text} (address : Nat) (new : ∀ p ∈ first, p.1 ≠ name) :
    lookup (first ++ (name, address) :: rest) name = some address := by
  have absent : first.find? (fun p => p.1 == name) = none := List.find?_eq_none.mpr fun p mem => by simpa using new p mem
  simp [lookup, List.find?_append, absent]

/-! ## Labels of a program -/

/-- The label of a line that pass 2 accepts is no label of the lines before it, and its address is the number of bytes that
they give. -/
theorem lookup_of_accepted {labels : Labels} {before after : List Text} {line name : Text} {head tail : List Byte}
    (parsed : parseLine line = .label name) (accepted : pass2 labels 1 [] before = .ok head)
    (acceptedLine : pass2 labels (1 + before.length) (definedAfter [] before) (line :: after) = .ok tail) :
    lookup (labelTable 1 0 (before ++ line :: after)) name = some head.length := by
  have new : name ∉ definedAfter [] before := by
    intro again
    rw [pass2_label_again parsed (List.contains_iff_mem.mpr again)] at acceptedLine
    cases acceptedLine
  rw [labelTable_append accepted, labelTable_label parsed, Nat.zero_add]
  refine lookup_append head.length fun p entry same => new ?_
  obtain ⟨l, mem, label⟩ := label_of_mem_labelTable entry
  exact mem_definedAfter_iff.mpr (.inr ⟨l, mem, same ▸ label⟩)

/-- Pass 2 stops at a second definition of a label, or before it. -/
theorem pass2_twice (labels : Labels) {before after : List Text} {line2 name : Text} (parsed : parseLine line2 = .label name)
    (again : ∃ line ∈ before, parseLine line = .label name) : pass2 labels 1 [] (before ++ line2 :: after) =
      (pass2 labels 1 [] before).bind fun _ => .error (.duplicateLabel, 1 + before.length) := by
  have seen := List.contains_iff_mem.mpr (mem_definedAfter_iff (defined := []).mpr (.inr again))
  rw [pass2_append, pass2_label_again parsed seen]
  rfl

/-- Settles O29: pass 2 splits at a label line, and pass 1 has counted what it emits before it; a label already defined is
refused where it stands. -/
theorem labelAddressIsWhereItsCodeStands : Obligations.LabelAddressIsWhereItsCodeStands := by
  refine ⟨fun before after line name code parsed assembles => ?address,
    fun before middle after line line2 name parsed parsed2 => ?twice⟩
  case address =>
    rw [assemble] at assembles
    generalize labelMap : lookup (labelTable 1 0 (before ++ line :: after)) = labels at assembles ⊢
    rw [pass2_append] at assembles
    cases accepted : pass2 labels 1 [] before with
    | error e => rw [accepted] at assembles; cases assembles
    | ok head =>
      rw [accepted] at assembles
      change Except.map _ _ = _ at assembles
      cases acceptedLine : pass2 labels (1 + before.length) (definedAfter [] before) (line :: after) with
      | error e => rw [acceptedLine] at assembles; cases assembles
      | ok tail =>
        rw [acceptedLine] at assembles
        cases assembles
        exact ⟨head, tail, rfl, rfl, labelMap ▸ lookup_of_accepted parsed accepted acceptedLine⟩
  case twice =>
    have lines : before ++ line :: (middle ++ line2 :: after) = (before ++ line :: middle) ++ line2 :: after := by simp
    have again : ∃ l ∈ before ++ line :: middle, parseLine l = .label name := ⟨line, by simp, parsed⟩
    have place : 1 + (before ++ line :: middle).length = before.length + middle.length + 2 := by
      rw [List.length_append, List.length_cons]
      omega
    rw [assembleResult, assemble, lines, pass2_twice _ parsed2 again, place]
    constructor
    · cases pass2 _ 1 [] (before ++ line :: middle) with
      | error e => exact ⟨e, rfl⟩
      | ok head => exact ⟨_, rfl⟩
    · intro head accepted
      rw [accepted]
      rfl

end Sys2Proof.Proofs.Assembly
end
